-- ==== Sys2Proof/Word.lean ====
section
/-! DEFINITION. The word and address types of the core (spec/00_scope.md R5 to R7): a 16-bit word, a 15-bit address. -/

namespace Sys2Proof

/-- Word16: "a 16-bit two's-complement integer"; arithmetic on it wraps modulo 2^16 (R5, R7). -/
abbrev Word := BitVec 16

/-- A 15-bit address: of the data memory, and of the instruction memory (R5, R24, R50). -/
abbrev Addr := BitVec 15

end Sys2Proof
end

