-- ==== Sys2Proof/Syntax.lean ====
section
/-! DEFINITION. The whole instruction syntax: one constructor per row of spec/opcode_table.json (R91), the A-instruction
and the 128 (a, comp) selections of the C-instruction. -/

namespace Sys2Proof

/-- The dest field, bits 5 to 3 of a C-instruction: `dA` (bit 5), `dD` (bit 4), `dM` (bit 3) (R82, R183 to R190). -/
structure Dest where
  /-- store the ALU result to A -/
  toA : Bool
  /-- store the ALU result to D -/
  toD : Bool
  /-- store the ALU result to the data word at the pre-commit A -/
  toM : Bool
  deriving DecidableEq, Repr

/-- The jump field, bits 2 to 0 of a C-instruction: `jLT` (bit 2), `jEQ` (bit 1), `jGT` (bit 0) (R82, R191 to R198). -/
structure Jump where
  /-- jump on a negative ALU result -/
  lt : Bool
  /-- jump on a zero ALU result -/
  eq : Bool
  /-- jump on a positive ALU result -/
  gt : Bool
  deriving DecidableEq, Repr

/-- The six ALU control bits, instruction bits 11 to 6 in this order (R82, R83, R110). -/
structure AluControl where
  zx : Bool
  nx : Bool
  zy : Bool
  ny : Bool
  f : Bool
  no : Bool
  deriving DecidableEq, Repr

/-- The instructions. A C-instruction's `ignored` is bits 14 and 13, which take no part in its meaning (R85); they are
kept so that an encoding is lost nowhere (DESIGN CHOICE, safe, notes/assumptions/10.md). `comp…` constructors are the 28 selections that have an assembler mnemonic
(R94); `c_a<a>_c<zx nx zy ny f no>` are the 100 others (R148). -/
inductive Instr where
  /-- `@value`, `0vvvvvvvvvvvvvvv` (R170) -/
  | atValue (value : Addr)
  /-- `D&A`, `1xx0000000dddjjj` (R136) -/
  | compDAndA (ignored : BitVec 2) (dest : Dest) (jump : Jump)
  /-- `C_a0_c000001`, `1xx0000001dddjjj` (R148) -/
  | c_a0_c000001 (ignored : BitVec 2) (dest : Dest) (jump : Jump)
  /-- `D+A`, `1xx0000010dddjjj` (R133) -/
  | compDPlusA (ignored : BitVec 2) (dest : Dest) (jump : Jump)
  /-- `C_a0_c000011`, `1xx0000011dddjjj` (R148) -/
  | c_a0_c000011 (ignored : BitVec 2) (dest : Dest) (jump : Jump)
  /-- `C_a0_c000100`, `1xx0000100dddjjj` (R148) -/
  | c_a0_c000100 (ignored : BitVec 2) (dest : Dest) (jump : Jump)
  /-- `C_a0_c000101`, `1xx0000101dddjjj` (R148) -/
  | c_a0_c000101 (ignored : BitVec 2) (dest : Dest) (jump : Jump)
  /-- `C_a0_c000110`, `1xx0000110dddjjj` (R148) -/
  | c_a0_c000110 (ignored : BitVec 2) (dest : Dest) (jump : Jump)
  /-- `A-D`, `1xx0000111dddjjj` (R135) -/
  | compAMinusD (ignored : BitVec 2) (dest : Dest) (jump : Jump)
  /-- `C_a0_c001000`, `1xx0001000dddjjj` (R148) -/
  | c_a0_c001000 (ignored : BitVec 2) (dest : Dest) (jump : Jump)
  /-- `C_a0_c001001`, `1xx0001001dddjjj` (R148) -/
  | c_a0_c001001 (ignored : BitVec 2) (dest : Dest) (jump : Jump)
  /-- `C_a0_c001010`, `1xx0001010dddjjj` (R148) -/
  | c_a0_c001010 (ignored : BitVec 2) (dest : Dest) (jump : Jump)
  /-- `C_a0_c001011`, `1xx0001011dddjjj` (R148) -/
  | c_a0_c001011 (ignored : BitVec 2) (dest : Dest) (jump : Jump)
  /-- `D`, `1xx0001100dddjjj` (R123) -/
  | compD (ignored : BitVec 2) (dest : Dest) (jump : Jump)
  /-- `!D`, `1xx0001101dddjjj` (R125) -/
  | compNotD (ignored : BitVec 2) (dest : Dest) (jump : Jump)
  /-- `D-1`, `1xx0001110dddjjj` (R131) -/
  | compDMinusOne (ignored : BitVec 2) (dest : Dest) (jump : Jump)
  /-- `-D`, `1xx0001111dddjjj` (R127) -/
  | compNegD (ignored : BitVec 2) (dest : Dest) (jump : Jump)
  /-- `C_a0_c010000`, `1xx0010000dddjjj` (R148) -/
  | c_a0_c010000 (ignored : BitVec 2) (dest : Dest) (jump : Jump)
  /-- `C_a0_c010001`, `1xx0010001dddjjj` (R148) -/
  | c_a0_c010001 (ignored : BitVec 2) (dest : Dest) (jump : Jump)
  /-- `C_a0_c010010`, `1xx0010010dddjjj` (R148) -/
  | c_a0_c010010 (ignored : BitVec 2) (dest : Dest) (jump : Jump)
  /-- `D-A`, `1xx0010011dddjjj` (R134) -/
  | compDMinusA (ignored : BitVec 2) (dest : Dest) (jump : Jump)
  /-- `C_a0_c010100`, `1xx0010100dddjjj` (R148) -/
  | c_a0_c010100 (ignored : BitVec 2) (dest : Dest) (jump : Jump)
  /-- `D|A`, `1xx0010101dddjjj` (R137) -/
  | compDOrA (ignored : BitVec 2) (dest : Dest) (jump : Jump)
  /-- `C_a0_c010110`, `1xx0010110dddjjj` (R148) -/
  | c_a0_c010110 (ignored : BitVec 2) (dest : Dest) (jump : Jump)
  /-- `C_a0_c010111`, `1xx0010111dddjjj` (R148) -/
  | c_a0_c010111 (ignored : BitVec 2) (dest : Dest) (jump : Jump)
  /-- `C_a0_c011000`, `1xx0011000dddjjj` (R148) -/
  | c_a0_c011000 (ignored : BitVec 2) (dest : Dest) (jump : Jump)
  /-- `C_a0_c011001`, `1xx0011001dddjjj` (R148) -/
  | c_a0_c011001 (ignored : BitVec 2) (dest : Dest) (jump : Jump)
  /-- `C_a0_c011010`, `1xx0011010dddjjj` (R148) -/
  | c_a0_c011010 (ignored : BitVec 2) (dest : Dest) (jump : Jump)
  /-- `C_a0_c011011`, `1xx0011011dddjjj` (R148) -/
  | c_a0_c011011 (ignored : BitVec 2) (dest : Dest) (jump : Jump)
  /-- `C_a0_c011100`, `1xx0011100dddjjj` (R148) -/
  | c_a0_c011100 (ignored : BitVec 2) (dest : Dest) (jump : Jump)
  /-- `C_a0_c011101`, `1xx0011101dddjjj` (R148) -/
  | c_a0_c011101 (ignored : BitVec 2) (dest : Dest) (jump : Jump)
  /-- `C_a0_c011110`, `1xx0011110dddjjj` (R148) -/
  | c_a0_c011110 (ignored : BitVec 2) (dest : Dest) (jump : Jump)
  /-- `D+1`, `1xx0011111dddjjj` (R129) -/
  | compDPlusOne (ignored : BitVec 2) (dest : Dest) (jump : Jump)
  /-- `C_a0_c100000`, `1xx0100000dddjjj` (R148) -/
  | c_a0_c100000 (ignored : BitVec 2) (dest : Dest) (jump : Jump)
  /-- `C_a0_c100001`, `1xx0100001dddjjj` (R148) -/
  | c_a0_c100001 (ignored : BitVec 2) (dest : Dest) (jump : Jump)
  /-- `C_a0_c100010`, `1xx0100010dddjjj` (R148) -/
  | c_a0_c100010 (ignored : BitVec 2) (dest : Dest) (jump : Jump)
  /-- `C_a0_c100011`, `1xx0100011dddjjj` (R148) -/
  | c_a0_c100011 (ignored : BitVec 2) (dest : Dest) (jump : Jump)
  /-- `C_a0_c100100`, `1xx0100100dddjjj` (R148) -/
  | c_a0_c100100 (ignored : BitVec 2) (dest : Dest) (jump : Jump)
  /-- `C_a0_c100101`, `1xx0100101dddjjj` (R148) -/
  | c_a0_c100101 (ignored : BitVec 2) (dest : Dest) (jump : Jump)
  /-- `C_a0_c100110`, `1xx0100110dddjjj` (R148) -/
  | c_a0_c100110 (ignored : BitVec 2) (dest : Dest) (jump : Jump)
  /-- `C_a0_c100111`, `1xx0100111dddjjj` (R148) -/
  | c_a0_c100111 (ignored : BitVec 2) (dest : Dest) (jump : Jump)
  /-- `C_a0_c101000`, `1xx0101000dddjjj` (R148) -/
  | c_a0_c101000 (ignored : BitVec 2) (dest : Dest) (jump : Jump)
  /-- `C_a0_c101001`, `1xx0101001dddjjj` (R148) -/
  | c_a0_c101001 (ignored : BitVec 2) (dest : Dest) (jump : Jump)
  /-- `0`, `1xx0101010dddjjj` (R120) -/
  | compZero (ignored : BitVec 2) (dest : Dest) (jump : Jump)
  /-- `C_a0_c101011`, `1xx0101011dddjjj` (R148) -/
  | c_a0_c101011 (ignored : BitVec 2) (dest : Dest) (jump : Jump)
  /-- `C_a0_c101100`, `1xx0101100dddjjj` (R148) -/
  | c_a0_c101100 (ignored : BitVec 2) (dest : Dest) (jump : Jump)
  /-- `C_a0_c101101`, `1xx0101101dddjjj` (R148) -/
  | c_a0_c101101 (ignored : BitVec 2) (dest : Dest) (jump : Jump)
  /-- `C_a0_c101110`, `1xx0101110dddjjj` (R148) -/
  | c_a0_c101110 (ignored : BitVec 2) (dest : Dest) (jump : Jump)
  /-- `C_a0_c101111`, `1xx0101111dddjjj` (R148) -/
  | c_a0_c101111 (ignored : BitVec 2) (dest : Dest) (jump : Jump)
  /-- `A`, `1xx0110000dddjjj` (R124) -/
  | compA (ignored : BitVec 2) (dest : Dest) (jump : Jump)
  /-- `!A`, `1xx0110001dddjjj` (R126) -/
  | compNotA (ignored : BitVec 2) (dest : Dest) (jump : Jump)
  /-- `A-1`, `1xx0110010dddjjj` (R132) -/
  | compAMinusOne (ignored : BitVec 2) (dest : Dest) (jump : Jump)
  /-- `-A`, `1xx0110011dddjjj` (R128) -/
  | compNegA (ignored : BitVec 2) (dest : Dest) (jump : Jump)
  /-- `C_a0_c110100`, `1xx0110100dddjjj` (R148) -/
  | c_a0_c110100 (ignored : BitVec 2) (dest : Dest) (jump : Jump)
  /-- `C_a0_c110101`, `1xx0110101dddjjj` (R148) -/
  | c_a0_c110101 (ignored : BitVec 2) (dest : Dest) (jump : Jump)
  /-- `C_a0_c110110`, `1xx0110110dddjjj` (R148) -/
  | c_a0_c110110 (ignored : BitVec 2) (dest : Dest) (jump : Jump)
  /-- `A+1`, `1xx0110111dddjjj` (R130) -/
  | compAPlusOne (ignored : BitVec 2) (dest : Dest) (jump : Jump)
  /-- `C_a0_c111000`, `1xx0111000dddjjj` (R148) -/
  | c_a0_c111000 (ignored : BitVec 2) (dest : Dest) (jump : Jump)
  /-- `C_a0_c111001`, `1xx0111001dddjjj` (R148) -/
  | c_a0_c111001 (ignored : BitVec 2) (dest : Dest) (jump : Jump)
  /-- `-1`, `1xx0111010dddjjj` (R122) -/
  | compMinusOne (ignored : BitVec 2) (dest : Dest) (jump : Jump)
  /-- `C_a0_c111011`, `1xx0111011dddjjj` (R148) -/
  | c_a0_c111011 (ignored : BitVec 2) (dest : Dest) (jump : Jump)
  /-- `C_a0_c111100`, `1xx0111100dddjjj` (R148) -/
  | c_a0_c111100 (ignored : BitVec 2) (dest : Dest) (jump : Jump)
  /-- `C_a0_c111101`, `1xx0111101dddjjj` (R148) -/
  | c_a0_c111101 (ignored : BitVec 2) (dest : Dest) (jump : Jump)
  /-- `C_a0_c111110`, `1xx0111110dddjjj` (R148) -/
  | c_a0_c111110 (ignored : BitVec 2) (dest : Dest) (jump : Jump)
  /-- `1`, `1xx0111111dddjjj` (R121) -/
  | compOne (ignored : BitVec 2) (dest : Dest) (jump : Jump)
  /-- `D&M`, `1xx1000000dddjjj` (R146) -/
  | compDAndM (ignored : BitVec 2) (dest : Dest) (jump : Jump)
  /-- `C_a1_c000001`, `1xx1000001dddjjj` (R148) -/
  | c_a1_c000001 (ignored : BitVec 2) (dest : Dest) (jump : Jump)
  /-- `D+M`, `1xx1000010dddjjj` (R143) -/
  | compDPlusM (ignored : BitVec 2) (dest : Dest) (jump : Jump)
  /-- `C_a1_c000011`, `1xx1000011dddjjj` (R148) -/
  | c_a1_c000011 (ignored : BitVec 2) (dest : Dest) (jump : Jump)
  /-- `C_a1_c000100`, `1xx1000100dddjjj` (R148) -/
  | c_a1_c000100 (ignored : BitVec 2) (dest : Dest) (jump : Jump)
  /-- `C_a1_c000101`, `1xx1000101dddjjj` (R148) -/
  | c_a1_c000101 (ignored : BitVec 2) (dest : Dest) (jump : Jump)
  /-- `C_a1_c000110`, `1xx1000110dddjjj` (R148) -/
  | c_a1_c000110 (ignored : BitVec 2) (dest : Dest) (jump : Jump)
  /-- `M-D`, `1xx1000111dddjjj` (R145) -/
  | compMMinusD (ignored : BitVec 2) (dest : Dest) (jump : Jump)
  /-- `C_a1_c001000`, `1xx1001000dddjjj` (R148) -/
  | c_a1_c001000 (ignored : BitVec 2) (dest : Dest) (jump : Jump)
  /-- `C_a1_c001001`, `1xx1001001dddjjj` (R148) -/
  | c_a1_c001001 (ignored : BitVec 2) (dest : Dest) (jump : Jump)
  /-- `C_a1_c001010`, `1xx1001010dddjjj` (R148) -/
  | c_a1_c001010 (ignored : BitVec 2) (dest : Dest) (jump : Jump)
  /-- `C_a1_c001011`, `1xx1001011dddjjj` (R148) -/
  | c_a1_c001011 (ignored : BitVec 2) (dest : Dest) (jump : Jump)
  /-- `C_a1_c001100`, `1xx1001100dddjjj` (R148) -/
  | c_a1_c001100 (ignored : BitVec 2) (dest : Dest) (jump : Jump)
  /-- `C_a1_c001101`, `1xx1001101dddjjj` (R148) -/
  | c_a1_c001101 (ignored : BitVec 2) (dest : Dest) (jump : Jump)
  /-- `C_a1_c001110`, `1xx1001110dddjjj` (R148) -/
  | c_a1_c001110 (ignored : BitVec 2) (dest : Dest) (jump : Jump)
  /-- `C_a1_c001111`, `1xx1001111dddjjj` (R148) -/
  | c_a1_c001111 (ignored : BitVec 2) (dest : Dest) (jump : Jump)
  /-- `C_a1_c010000`, `1xx1010000dddjjj` (R148) -/
  | c_a1_c010000 (ignored : BitVec 2) (dest : Dest) (jump : Jump)
  /-- `C_a1_c010001`, `1xx1010001dddjjj` (R148) -/
  | c_a1_c010001 (ignored : BitVec 2) (dest : Dest) (jump : Jump)
  /-- `C_a1_c010010`, `1xx1010010dddjjj` (R148) -/
  | c_a1_c010010 (ignored : BitVec 2) (dest : Dest) (jump : Jump)
  /-- `D-M`, `1xx1010011dddjjj` (R144) -/
  | compDMinusM (ignored : BitVec 2) (dest : Dest) (jump : Jump)
  /-- `C_a1_c010100`, `1xx1010100dddjjj` (R148) -/
  | c_a1_c010100 (ignored : BitVec 2) (dest : Dest) (jump : Jump)
  /-- `D|M`, `1xx1010101dddjjj` (R147) -/
  | compDOrM (ignored : BitVec 2) (dest : Dest) (jump : Jump)
  /-- `C_a1_c010110`, `1xx1010110dddjjj` (R148) -/
  | c_a1_c010110 (ignored : BitVec 2) (dest : Dest) (jump : Jump)
  /-- `C_a1_c010111`, `1xx1010111dddjjj` (R148) -/
  | c_a1_c010111 (ignored : BitVec 2) (dest : Dest) (jump : Jump)
  /-- `C_a1_c011000`, `1xx1011000dddjjj` (R148) -/
  | c_a1_c011000 (ignored : BitVec 2) (dest : Dest) (jump : Jump)
  /-- `C_a1_c011001`, `1xx1011001dddjjj` (R148) -/
  | c_a1_c011001 (ignored : BitVec 2) (dest : Dest) (jump : Jump)
  /-- `C_a1_c011010`, `1xx1011010dddjjj` (R148) -/
  | c_a1_c011010 (ignored : BitVec 2) (dest : Dest) (jump : Jump)
  /-- `C_a1_c011011`, `1xx1011011dddjjj` (R148) -/
  | c_a1_c011011 (ignored : BitVec 2) (dest : Dest) (jump : Jump)
  /-- `C_a1_c011100`, `1xx1011100dddjjj` (R148) -/
  | c_a1_c011100 (ignored : BitVec 2) (dest : Dest) (jump : Jump)
  /-- `C_a1_c011101`, `1xx1011101dddjjj` (R148) -/
  | c_a1_c011101 (ignored : BitVec 2) (dest : Dest) (jump : Jump)
  /-- `C_a1_c011110`, `1xx1011110dddjjj` (R148) -/
  | c_a1_c011110 (ignored : BitVec 2) (dest : Dest) (jump : Jump)
  /-- `C_a1_c011111`, `1xx1011111dddjjj` (R148) -/
  | c_a1_c011111 (ignored : BitVec 2) (dest : Dest) (jump : Jump)
  /-- `C_a1_c100000`, `1xx1100000dddjjj` (R148) -/
  | c_a1_c100000 (ignored : BitVec 2) (dest : Dest) (jump : Jump)
  /-- `C_a1_c100001`, `1xx1100001dddjjj` (R148) -/
  | c_a1_c100001 (ignored : BitVec 2) (dest : Dest) (jump : Jump)
  /-- `C_a1_c100010`, `1xx1100010dddjjj` (R148) -/
  | c_a1_c100010 (ignored : BitVec 2) (dest : Dest) (jump : Jump)
  /-- `C_a1_c100011`, `1xx1100011dddjjj` (R148) -/
  | c_a1_c100011 (ignored : BitVec 2) (dest : Dest) (jump : Jump)
  /-- `C_a1_c100100`, `1xx1100100dddjjj` (R148) -/
  | c_a1_c100100 (ignored : BitVec 2) (dest : Dest) (jump : Jump)
  /-- `C_a1_c100101`, `1xx1100101dddjjj` (R148) -/
  | c_a1_c100101 (ignored : BitVec 2) (dest : Dest) (jump : Jump)
  /-- `C_a1_c100110`, `1xx1100110dddjjj` (R148) -/
  | c_a1_c100110 (ignored : BitVec 2) (dest : Dest) (jump : Jump)
  /-- `C_a1_c100111`, `1xx1100111dddjjj` (R148) -/
  | c_a1_c100111 (ignored : BitVec 2) (dest : Dest) (jump : Jump)
  /-- `C_a1_c101000`, `1xx1101000dddjjj` (R148) -/
  | c_a1_c101000 (ignored : BitVec 2) (dest : Dest) (jump : Jump)
  /-- `C_a1_c101001`, `1xx1101001dddjjj` (R148) -/
  | c_a1_c101001 (ignored : BitVec 2) (dest : Dest) (jump : Jump)
  /-- `C_a1_c101010`, `1xx1101010dddjjj` (R148) -/
  | c_a1_c101010 (ignored : BitVec 2) (dest : Dest) (jump : Jump)
  /-- `C_a1_c101011`, `1xx1101011dddjjj` (R148) -/
  | c_a1_c101011 (ignored : BitVec 2) (dest : Dest) (jump : Jump)
  /-- `C_a1_c101100`, `1xx1101100dddjjj` (R148) -/
  | c_a1_c101100 (ignored : BitVec 2) (dest : Dest) (jump : Jump)
  /-- `C_a1_c101101`, `1xx1101101dddjjj` (R148) -/
  | c_a1_c101101 (ignored : BitVec 2) (dest : Dest) (jump : Jump)
  /-- `C_a1_c101110`, `1xx1101110dddjjj` (R148) -/
  | c_a1_c101110 (ignored : BitVec 2) (dest : Dest) (jump : Jump)
  /-- `C_a1_c101111`, `1xx1101111dddjjj` (R148) -/
  | c_a1_c101111 (ignored : BitVec 2) (dest : Dest) (jump : Jump)
  /-- `M`, `1xx1110000dddjjj` (R138) -/
  | compM (ignored : BitVec 2) (dest : Dest) (jump : Jump)
  /-- `!M`, `1xx1110001dddjjj` (R139) -/
  | compNotM (ignored : BitVec 2) (dest : Dest) (jump : Jump)
  /-- `M-1`, `1xx1110010dddjjj` (R142) -/
  | compMMinusOne (ignored : BitVec 2) (dest : Dest) (jump : Jump)
  /-- `-M`, `1xx1110011dddjjj` (R140) -/
  | compNegM (ignored : BitVec 2) (dest : Dest) (jump : Jump)
  /-- `C_a1_c110100`, `1xx1110100dddjjj` (R148) -/
  | c_a1_c110100 (ignored : BitVec 2) (dest : Dest) (jump : Jump)
  /-- `C_a1_c110101`, `1xx1110101dddjjj` (R148) -/
  | c_a1_c110101 (ignored : BitVec 2) (dest : Dest) (jump : Jump)
  /-- `C_a1_c110110`, `1xx1110110dddjjj` (R148) -/
  | c_a1_c110110 (ignored : BitVec 2) (dest : Dest) (jump : Jump)
  /-- `M+1`, `1xx1110111dddjjj` (R141) -/
  | compMPlusOne (ignored : BitVec 2) (dest : Dest) (jump : Jump)
  /-- `C_a1_c111000`, `1xx1111000dddjjj` (R148) -/
  | c_a1_c111000 (ignored : BitVec 2) (dest : Dest) (jump : Jump)
  /-- `C_a1_c111001`, `1xx1111001dddjjj` (R148) -/
  | c_a1_c111001 (ignored : BitVec 2) (dest : Dest) (jump : Jump)
  /-- `C_a1_c111010`, `1xx1111010dddjjj` (R148) -/
  | c_a1_c111010 (ignored : BitVec 2) (dest : Dest) (jump : Jump)
  /-- `C_a1_c111011`, `1xx1111011dddjjj` (R148) -/
  | c_a1_c111011 (ignored : BitVec 2) (dest : Dest) (jump : Jump)
  /-- `C_a1_c111100`, `1xx1111100dddjjj` (R148) -/
  | c_a1_c111100 (ignored : BitVec 2) (dest : Dest) (jump : Jump)
  /-- `C_a1_c111101`, `1xx1111101dddjjj` (R148) -/
  | c_a1_c111101 (ignored : BitVec 2) (dest : Dest) (jump : Jump)
  /-- `C_a1_c111110`, `1xx1111110dddjjj` (R148) -/
  | c_a1_c111110 (ignored : BitVec 2) (dest : Dest) (jump : Jump)
  /-- `C_a1_c111111`, `1xx1111111dddjjj` (R148) -/
  | c_a1_c111111 (ignored : BitVec 2) (dest : Dest) (jump : Jump)
  deriving DecidableEq, Repr

end Sys2Proof
end

