-- ==== Sys2Proof/WellFormed.lean ====
section
/-! DEFINITION. What is well formed: an instruction (every one is, R90), a program image (R235), a host's data address
(R236) and a renderer's Screen index (R222). -/

namespace Sys2Proof

/-- Every instruction is well formed: "every 16-bit instruction word is syntactically valid by construction", every
dest and jump combination is meaningful and bits 14:13 take any value (R85, R90). The operand widths (15-bit literal,
2 ignored bits, 3 + 3 flags) are the types' own. -/
def Instr.wf : Instr → Bool := fun _ => true

/-- An image fits the addressable instruction space: at most 32768 words (R71, R235). -/
def imageWellFormed (words : List Word) : Bool := words.length ≤ 0x8000

/-- An address `peek` and `poke` reach: RAM (0 to 0x3FFF) or Screen (0x4000 to 0x5FFF) (R236). -/
def hostAddressWellFormed (addr : Nat) : Bool := addr < 0x6000

/-- A Screen word's index, 0 to 8191 (R20, R222). -/
def screenIndexWellFormed (index : Nat) : Bool := index < 0x2000

end Sys2Proof
end

