-- ==== Sys2Proof/Decode.lean ====
section
/-! DEFINITION. The decoder, total on every 16-bit word, the ControlDecoder record of R88, and the encoder
(spec/30_encoding.md R80 to R91). The order of the bits in each field and the polarity of bit 12 are R83's and R84's:
UNVERIFIED, unsafe, notes/assumptions/9.md. -/

namespace Sys2Proof

/-- The dest field of a word: bits 5, 4, 3 (R82, R83). -/
def destOf (w : Word) : Dest := ⟨w.getLsbD 5, w.getLsbD 4, w.getLsbD 3⟩

/-- The jump field of a word: bits 2, 1, 0 (R82, R83). -/
def jumpOf (w : Word) : Jump := ⟨w.getLsbD 2, w.getLsbD 1, w.getLsbD 0⟩

/-- The six ALU control bits of a word: bits 11 to 6 (R82, R83). -/
def aluControlOf (w : Word) : AluControl :=
  ⟨w.getLsbD 11, w.getLsbD 10, w.getLsbD 9, w.getLsbD 8, w.getLsbD 7, w.getLsbD 6⟩

/-- The C-instruction that a comp selection names: `a` and `zx nx zy ny f no` in that order (R91, R94, R148). Every
one of the 128 selections names one; none is rejected (R90). -/
def computeInstr (x : BitVec 2) (a : Bool) (c : AluControl) (d : Dest) (j : Jump) : Instr :=
  match a, c with
  | false, ⟨false, false, false, false, false, false⟩ => .compDAndA x d j
  | false, ⟨false, false, false, false, false, true⟩ => .c_a0_c000001 x d j
  | false, ⟨false, false, false, false, true, false⟩ => .compDPlusA x d j
  | false, ⟨false, false, false, false, true, true⟩ => .c_a0_c000011 x d j
  | false, ⟨false, false, false, true, false, false⟩ => .c_a0_c000100 x d j
  | false, ⟨false, false, false, true, false, true⟩ => .c_a0_c000101 x d j
  | false, ⟨false, false, false, true, true, false⟩ => .c_a0_c000110 x d j
  | false, ⟨false, false, false, true, true, true⟩ => .compAMinusD x d j
  | false, ⟨false, false, true, false, false, false⟩ => .c_a0_c001000 x d j
  | false, ⟨false, false, true, false, false, true⟩ => .c_a0_c001001 x d j
  | false, ⟨false, false, true, false, true, false⟩ => .c_a0_c001010 x d j
  | false, ⟨false, false, true, false, true, true⟩ => .c_a0_c001011 x d j
  | false, ⟨false, false, true, true, false, false⟩ => .compD x d j
  | false, ⟨false, false, true, true, false, true⟩ => .compNotD x d j
  | false, ⟨false, false, true, true, true, false⟩ => .compDMinusOne x d j
  | false, ⟨false, false, true, true, true, true⟩ => .compNegD x d j
  | false, ⟨false, true, false, false, false, false⟩ => .c_a0_c010000 x d j
  | false, ⟨false, true, false, false, false, true⟩ => .c_a0_c010001 x d j
  | false, ⟨false, true, false, false, true, false⟩ => .c_a0_c010010 x d j
  | false, ⟨false, true, false, false, true, true⟩ => .compDMinusA x d j
  | false, ⟨false, true, false, true, false, false⟩ => .c_a0_c010100 x d j
  | false, ⟨false, true, false, true, false, true⟩ => .compDOrA x d j
  | false, ⟨false, true, false, true, true, false⟩ => .c_a0_c010110 x d j
  | false, ⟨false, true, false, true, true, true⟩ => .c_a0_c010111 x d j
  | false, ⟨false, true, true, false, false, false⟩ => .c_a0_c011000 x d j
  | false, ⟨false, true, true, false, false, true⟩ => .c_a0_c011001 x d j
  | false, ⟨false, true, true, false, true, false⟩ => .c_a0_c011010 x d j
  | false, ⟨false, true, true, false, true, true⟩ => .c_a0_c011011 x d j
  | false, ⟨false, true, true, true, false, false⟩ => .c_a0_c011100 x d j
  | false, ⟨false, true, true, true, false, true⟩ => .c_a0_c011101 x d j
  | false, ⟨false, true, true, true, true, false⟩ => .c_a0_c011110 x d j
  | false, ⟨false, true, true, true, true, true⟩ => .compDPlusOne x d j
  | false, ⟨true, false, false, false, false, false⟩ => .c_a0_c100000 x d j
  | false, ⟨true, false, false, false, false, true⟩ => .c_a0_c100001 x d j
  | false, ⟨true, false, false, false, true, false⟩ => .c_a0_c100010 x d j
  | false, ⟨true, false, false, false, true, true⟩ => .c_a0_c100011 x d j
  | false, ⟨true, false, false, true, false, false⟩ => .c_a0_c100100 x d j
  | false, ⟨true, false, false, true, false, true⟩ => .c_a0_c100101 x d j
  | false, ⟨true, false, false, true, true, false⟩ => .c_a0_c100110 x d j
  | false, ⟨true, false, false, true, true, true⟩ => .c_a0_c100111 x d j
  | false, ⟨true, false, true, false, false, false⟩ => .c_a0_c101000 x d j
  | false, ⟨true, false, true, false, false, true⟩ => .c_a0_c101001 x d j
  | false, ⟨true, false, true, false, true, false⟩ => .compZero x d j
  | false, ⟨true, false, true, false, true, true⟩ => .c_a0_c101011 x d j
  | false, ⟨true, false, true, true, false, false⟩ => .c_a0_c101100 x d j
  | false, ⟨true, false, true, true, false, true⟩ => .c_a0_c101101 x d j
  | false, ⟨true, false, true, true, true, false⟩ => .c_a0_c101110 x d j
  | false, ⟨true, false, true, true, true, true⟩ => .c_a0_c101111 x d j
  | false, ⟨true, true, false, false, false, false⟩ => .compA x d j
  | false, ⟨true, true, false, false, false, true⟩ => .compNotA x d j
  | false, ⟨true, true, false, false, true, false⟩ => .compAMinusOne x d j
  | false, ⟨true, true, false, false, true, true⟩ => .compNegA x d j
  | false, ⟨true, true, false, true, false, false⟩ => .c_a0_c110100 x d j
  | false, ⟨true, true, false, true, false, true⟩ => .c_a0_c110101 x d j
  | false, ⟨true, true, false, true, true, false⟩ => .c_a0_c110110 x d j
  | false, ⟨true, true, false, true, true, true⟩ => .compAPlusOne x d j
  | false, ⟨true, true, true, false, false, false⟩ => .c_a0_c111000 x d j
  | false, ⟨true, true, true, false, false, true⟩ => .c_a0_c111001 x d j
  | false, ⟨true, true, true, false, true, false⟩ => .compMinusOne x d j
  | false, ⟨true, true, true, false, true, true⟩ => .c_a0_c111011 x d j
  | false, ⟨true, true, true, true, false, false⟩ => .c_a0_c111100 x d j
  | false, ⟨true, true, true, true, false, true⟩ => .c_a0_c111101 x d j
  | false, ⟨true, true, true, true, true, false⟩ => .c_a0_c111110 x d j
  | false, ⟨true, true, true, true, true, true⟩ => .compOne x d j
  | true, ⟨false, false, false, false, false, false⟩ => .compDAndM x d j
  | true, ⟨false, false, false, false, false, true⟩ => .c_a1_c000001 x d j
  | true, ⟨false, false, false, false, true, false⟩ => .compDPlusM x d j
  | true, ⟨false, false, false, false, true, true⟩ => .c_a1_c000011 x d j
  | true, ⟨false, false, false, true, false, false⟩ => .c_a1_c000100 x d j
  | true, ⟨false, false, false, true, false, true⟩ => .c_a1_c000101 x d j
  | true, ⟨false, false, false, true, true, false⟩ => .c_a1_c000110 x d j
  | true, ⟨false, false, false, true, true, true⟩ => .compMMinusD x d j
  | true, ⟨false, false, true, false, false, false⟩ => .c_a1_c001000 x d j
  | true, ⟨false, false, true, false, false, true⟩ => .c_a1_c001001 x d j
  | true, ⟨false, false, true, false, true, false⟩ => .c_a1_c001010 x d j
  | true, ⟨false, false, true, false, true, true⟩ => .c_a1_c001011 x d j
  | true, ⟨false, false, true, true, false, false⟩ => .c_a1_c001100 x d j
  | true, ⟨false, false, true, true, false, true⟩ => .c_a1_c001101 x d j
  | true, ⟨false, false, true, true, true, false⟩ => .c_a1_c001110 x d j
  | true, ⟨false, false, true, true, true, true⟩ => .c_a1_c001111 x d j
  | true, ⟨false, true, false, false, false, false⟩ => .c_a1_c010000 x d j
  | true, ⟨false, true, false, false, false, true⟩ => .c_a1_c010001 x d j
  | true, ⟨false, true, false, false, true, false⟩ => .c_a1_c010010 x d j
  | true, ⟨false, true, false, false, true, true⟩ => .compDMinusM x d j
  | true, ⟨false, true, false, true, false, false⟩ => .c_a1_c010100 x d j
  | true, ⟨false, true, false, true, false, true⟩ => .compDOrM x d j
  | true, ⟨false, true, false, true, true, false⟩ => .c_a1_c010110 x d j
  | true, ⟨false, true, false, true, true, true⟩ => .c_a1_c010111 x d j
  | true, ⟨false, true, true, false, false, false⟩ => .c_a1_c011000 x d j
  | true, ⟨false, true, true, false, false, true⟩ => .c_a1_c011001 x d j
  | true, ⟨false, true, true, false, true, false⟩ => .c_a1_c011010 x d j
  | true, ⟨false, true, true, false, true, true⟩ => .c_a1_c011011 x d j
  | true, ⟨false, true, true, true, false, false⟩ => .c_a1_c011100 x d j
  | true, ⟨false, true, true, true, false, true⟩ => .c_a1_c011101 x d j
  | true, ⟨false, true, true, true, true, false⟩ => .c_a1_c011110 x d j
  | true, ⟨false, true, true, true, true, true⟩ => .c_a1_c011111 x d j
  | true, ⟨true, false, false, false, false, false⟩ => .c_a1_c100000 x d j
  | true, ⟨true, false, false, false, false, true⟩ => .c_a1_c100001 x d j
  | true, ⟨true, false, false, false, true, false⟩ => .c_a1_c100010 x d j
  | true, ⟨true, false, false, false, true, true⟩ => .c_a1_c100011 x d j
  | true, ⟨true, false, false, true, false, false⟩ => .c_a1_c100100 x d j
  | true, ⟨true, false, false, true, false, true⟩ => .c_a1_c100101 x d j
  | true, ⟨true, false, false, true, true, false⟩ => .c_a1_c100110 x d j
  | true, ⟨true, false, false, true, true, true⟩ => .c_a1_c100111 x d j
  | true, ⟨true, false, true, false, false, false⟩ => .c_a1_c101000 x d j
  | true, ⟨true, false, true, false, false, true⟩ => .c_a1_c101001 x d j
  | true, ⟨true, false, true, false, true, false⟩ => .c_a1_c101010 x d j
  | true, ⟨true, false, true, false, true, true⟩ => .c_a1_c101011 x d j
  | true, ⟨true, false, true, true, false, false⟩ => .c_a1_c101100 x d j
  | true, ⟨true, false, true, true, false, true⟩ => .c_a1_c101101 x d j
  | true, ⟨true, false, true, true, true, false⟩ => .c_a1_c101110 x d j
  | true, ⟨true, false, true, true, true, true⟩ => .c_a1_c101111 x d j
  | true, ⟨true, true, false, false, false, false⟩ => .compM x d j
  | true, ⟨true, true, false, false, false, true⟩ => .compNotM x d j
  | true, ⟨true, true, false, false, true, false⟩ => .compMMinusOne x d j
  | true, ⟨true, true, false, false, true, true⟩ => .compNegM x d j
  | true, ⟨true, true, false, true, false, false⟩ => .c_a1_c110100 x d j
  | true, ⟨true, true, false, true, false, true⟩ => .c_a1_c110101 x d j
  | true, ⟨true, true, false, true, true, false⟩ => .c_a1_c110110 x d j
  | true, ⟨true, true, false, true, true, true⟩ => .compMPlusOne x d j
  | true, ⟨true, true, true, false, false, false⟩ => .c_a1_c111000 x d j
  | true, ⟨true, true, true, false, false, true⟩ => .c_a1_c111001 x d j
  | true, ⟨true, true, true, false, true, false⟩ => .c_a1_c111010 x d j
  | true, ⟨true, true, true, false, true, true⟩ => .c_a1_c111011 x d j
  | true, ⟨true, true, true, true, false, false⟩ => .c_a1_c111100 x d j
  | true, ⟨true, true, true, true, false, true⟩ => .c_a1_c111101 x d j
  | true, ⟨true, true, true, true, true, false⟩ => .c_a1_c111110 x d j
  | true, ⟨true, true, true, true, true, true⟩ => .c_a1_c111111 x d j

/-- The instruction a 16-bit word is (R80): bit 15 alone tells the format. Total: "there is no instruction that the
decoder rejects" (R90). -/
def decode (w : Word) : Instr :=
  if w.getLsbD 15 then
    computeInstr (w.extractLsb' 13 2) (w.getLsbD 12) (aluControlOf w) (destOf w) (jumpOf w)
  else
    .atValue (w.setWidth 15)

/-- The instruction of an opcode-table row's bits `w` (R80: one 16-bit word, no instruction spans several). The word's
bits are numbered as the table numbers them. A number that is not one instruction word (more than 16 bits) is
no instruction (DESIGN CHOICE, safe, notes/assumptions/13.md). -/
def decodeTableWord (nbits w : Nat) : Option Instr :=
  if nbits ≤ 16 ∧ w < 2 ^ 16 then some (decode (BitVec.ofNat 16 w)) else none

/-- The ControlDecoder's record (R88). `isC` and `a` are the two fields the spec adds to the source's record;
`isC` is `addressSource = computed`. -/
structure ControlSignals where
  isC : Bool
  a : Bool
  alu : AluControl
  dest : Dest
  jump : Jump
  deriving DecidableEq, Repr

/-- The ControlDecoder (R88): an A-instruction always loads A, and has no other store and no jump; its `a` and ALU
bits are irrelevant. -/
def controlSignals (w : Word) : ControlSignals :=
  if w.getLsbD 15 then
    { isC := true, a := w.getLsbD 12, alu := aluControlOf w, dest := destOf w, jump := jumpOf w }
  else
    { isC := false, a := w.getLsbD 12, alu := aluControlOf w,
      dest := ⟨true, false, false⟩, jump := ⟨false, false, false⟩ }

/-- The three dest bits, `dA` first (R82). -/
def Dest.bits (d : Dest) : BitVec 3 := BitVec.ofBool d.toA ++ BitVec.ofBool d.toD ++ BitVec.ofBool d.toM

/-- The three jump bits, `jLT` first (R82). -/
def Jump.bits (j : Jump) : BitVec 3 := BitVec.ofBool j.lt ++ BitVec.ofBool j.eq ++ BitVec.ofBool j.gt

/-- A C-instruction's word, `1xxaccccccdddjjj` (R82): `ac` is `a` and the six ALU bits. -/
def computeWord (x : BitVec 2) (ac : BitVec 7) (d : Dest) (j : Jump) : Word :=
  1#1 ++ x ++ ac ++ d.bits ++ j.bits

/-- The word of an instruction (R81, R82, R94, R148). -/
def encode : Instr → Word
  | .atValue v => 0#1 ++ v
  | .compDAndA x d j => computeWord x 0b0000000#7 d j
  | .c_a0_c000001 x d j => computeWord x 0b0000001#7 d j
  | .compDPlusA x d j => computeWord x 0b0000010#7 d j
  | .c_a0_c000011 x d j => computeWord x 0b0000011#7 d j
  | .c_a0_c000100 x d j => computeWord x 0b0000100#7 d j
  | .c_a0_c000101 x d j => computeWord x 0b0000101#7 d j
  | .c_a0_c000110 x d j => computeWord x 0b0000110#7 d j
  | .compAMinusD x d j => computeWord x 0b0000111#7 d j
  | .c_a0_c001000 x d j => computeWord x 0b0001000#7 d j
  | .c_a0_c001001 x d j => computeWord x 0b0001001#7 d j
  | .c_a0_c001010 x d j => computeWord x 0b0001010#7 d j
  | .c_a0_c001011 x d j => computeWord x 0b0001011#7 d j
  | .compD x d j => computeWord x 0b0001100#7 d j
  | .compNotD x d j => computeWord x 0b0001101#7 d j
  | .compDMinusOne x d j => computeWord x 0b0001110#7 d j
  | .compNegD x d j => computeWord x 0b0001111#7 d j
  | .c_a0_c010000 x d j => computeWord x 0b0010000#7 d j
  | .c_a0_c010001 x d j => computeWord x 0b0010001#7 d j
  | .c_a0_c010010 x d j => computeWord x 0b0010010#7 d j
  | .compDMinusA x d j => computeWord x 0b0010011#7 d j
  | .c_a0_c010100 x d j => computeWord x 0b0010100#7 d j
  | .compDOrA x d j => computeWord x 0b0010101#7 d j
  | .c_a0_c010110 x d j => computeWord x 0b0010110#7 d j
  | .c_a0_c010111 x d j => computeWord x 0b0010111#7 d j
  | .c_a0_c011000 x d j => computeWord x 0b0011000#7 d j
  | .c_a0_c011001 x d j => computeWord x 0b0011001#7 d j
  | .c_a0_c011010 x d j => computeWord x 0b0011010#7 d j
  | .c_a0_c011011 x d j => computeWord x 0b0011011#7 d j
  | .c_a0_c011100 x d j => computeWord x 0b0011100#7 d j
  | .c_a0_c011101 x d j => computeWord x 0b0011101#7 d j
  | .c_a0_c011110 x d j => computeWord x 0b0011110#7 d j
  | .compDPlusOne x d j => computeWord x 0b0011111#7 d j
  | .c_a0_c100000 x d j => computeWord x 0b0100000#7 d j
  | .c_a0_c100001 x d j => computeWord x 0b0100001#7 d j
  | .c_a0_c100010 x d j => computeWord x 0b0100010#7 d j
  | .c_a0_c100011 x d j => computeWord x 0b0100011#7 d j
  | .c_a0_c100100 x d j => computeWord x 0b0100100#7 d j
  | .c_a0_c100101 x d j => computeWord x 0b0100101#7 d j
  | .c_a0_c100110 x d j => computeWord x 0b0100110#7 d j
  | .c_a0_c100111 x d j => computeWord x 0b0100111#7 d j
  | .c_a0_c101000 x d j => computeWord x 0b0101000#7 d j
  | .c_a0_c101001 x d j => computeWord x 0b0101001#7 d j
  | .compZero x d j => computeWord x 0b0101010#7 d j
  | .c_a0_c101011 x d j => computeWord x 0b0101011#7 d j
  | .c_a0_c101100 x d j => computeWord x 0b0101100#7 d j
  | .c_a0_c101101 x d j => computeWord x 0b0101101#7 d j
  | .c_a0_c101110 x d j => computeWord x 0b0101110#7 d j
  | .c_a0_c101111 x d j => computeWord x 0b0101111#7 d j
  | .compA x d j => computeWord x 0b0110000#7 d j
  | .compNotA x d j => computeWord x 0b0110001#7 d j
  | .compAMinusOne x d j => computeWord x 0b0110010#7 d j
  | .compNegA x d j => computeWord x 0b0110011#7 d j
  | .c_a0_c110100 x d j => computeWord x 0b0110100#7 d j
  | .c_a0_c110101 x d j => computeWord x 0b0110101#7 d j
  | .c_a0_c110110 x d j => computeWord x 0b0110110#7 d j
  | .compAPlusOne x d j => computeWord x 0b0110111#7 d j
  | .c_a0_c111000 x d j => computeWord x 0b0111000#7 d j
  | .c_a0_c111001 x d j => computeWord x 0b0111001#7 d j
  | .compMinusOne x d j => computeWord x 0b0111010#7 d j
  | .c_a0_c111011 x d j => computeWord x 0b0111011#7 d j
  | .c_a0_c111100 x d j => computeWord x 0b0111100#7 d j
  | .c_a0_c111101 x d j => computeWord x 0b0111101#7 d j
  | .c_a0_c111110 x d j => computeWord x 0b0111110#7 d j
  | .compOne x d j => computeWord x 0b0111111#7 d j
  | .compDAndM x d j => computeWord x 0b1000000#7 d j
  | .c_a1_c000001 x d j => computeWord x 0b1000001#7 d j
  | .compDPlusM x d j => computeWord x 0b1000010#7 d j
  | .c_a1_c000011 x d j => computeWord x 0b1000011#7 d j
  | .c_a1_c000100 x d j => computeWord x 0b1000100#7 d j
  | .c_a1_c000101 x d j => computeWord x 0b1000101#7 d j
  | .c_a1_c000110 x d j => computeWord x 0b1000110#7 d j
  | .compMMinusD x d j => computeWord x 0b1000111#7 d j
  | .c_a1_c001000 x d j => computeWord x 0b1001000#7 d j
  | .c_a1_c001001 x d j => computeWord x 0b1001001#7 d j
  | .c_a1_c001010 x d j => computeWord x 0b1001010#7 d j
  | .c_a1_c001011 x d j => computeWord x 0b1001011#7 d j
  | .c_a1_c001100 x d j => computeWord x 0b1001100#7 d j
  | .c_a1_c001101 x d j => computeWord x 0b1001101#7 d j
  | .c_a1_c001110 x d j => computeWord x 0b1001110#7 d j
  | .c_a1_c001111 x d j => computeWord x 0b1001111#7 d j
  | .c_a1_c010000 x d j => computeWord x 0b1010000#7 d j
  | .c_a1_c010001 x d j => computeWord x 0b1010001#7 d j
  | .c_a1_c010010 x d j => computeWord x 0b1010010#7 d j
  | .compDMinusM x d j => computeWord x 0b1010011#7 d j
  | .c_a1_c010100 x d j => computeWord x 0b1010100#7 d j
  | .compDOrM x d j => computeWord x 0b1010101#7 d j
  | .c_a1_c010110 x d j => computeWord x 0b1010110#7 d j
  | .c_a1_c010111 x d j => computeWord x 0b1010111#7 d j
  | .c_a1_c011000 x d j => computeWord x 0b1011000#7 d j
  | .c_a1_c011001 x d j => computeWord x 0b1011001#7 d j
  | .c_a1_c011010 x d j => computeWord x 0b1011010#7 d j
  | .c_a1_c011011 x d j => computeWord x 0b1011011#7 d j
  | .c_a1_c011100 x d j => computeWord x 0b1011100#7 d j
  | .c_a1_c011101 x d j => computeWord x 0b1011101#7 d j
  | .c_a1_c011110 x d j => computeWord x 0b1011110#7 d j
  | .c_a1_c011111 x d j => computeWord x 0b1011111#7 d j
  | .c_a1_c100000 x d j => computeWord x 0b1100000#7 d j
  | .c_a1_c100001 x d j => computeWord x 0b1100001#7 d j
  | .c_a1_c100010 x d j => computeWord x 0b1100010#7 d j
  | .c_a1_c100011 x d j => computeWord x 0b1100011#7 d j
  | .c_a1_c100100 x d j => computeWord x 0b1100100#7 d j
  | .c_a1_c100101 x d j => computeWord x 0b1100101#7 d j
  | .c_a1_c100110 x d j => computeWord x 0b1100110#7 d j
  | .c_a1_c100111 x d j => computeWord x 0b1100111#7 d j
  | .c_a1_c101000 x d j => computeWord x 0b1101000#7 d j
  | .c_a1_c101001 x d j => computeWord x 0b1101001#7 d j
  | .c_a1_c101010 x d j => computeWord x 0b1101010#7 d j
  | .c_a1_c101011 x d j => computeWord x 0b1101011#7 d j
  | .c_a1_c101100 x d j => computeWord x 0b1101100#7 d j
  | .c_a1_c101101 x d j => computeWord x 0b1101101#7 d j
  | .c_a1_c101110 x d j => computeWord x 0b1101110#7 d j
  | .c_a1_c101111 x d j => computeWord x 0b1101111#7 d j
  | .compM x d j => computeWord x 0b1110000#7 d j
  | .compNotM x d j => computeWord x 0b1110001#7 d j
  | .compMMinusOne x d j => computeWord x 0b1110010#7 d j
  | .compNegM x d j => computeWord x 0b1110011#7 d j
  | .c_a1_c110100 x d j => computeWord x 0b1110100#7 d j
  | .c_a1_c110101 x d j => computeWord x 0b1110101#7 d j
  | .c_a1_c110110 x d j => computeWord x 0b1110110#7 d j
  | .compMPlusOne x d j => computeWord x 0b1110111#7 d j
  | .c_a1_c111000 x d j => computeWord x 0b1111000#7 d j
  | .c_a1_c111001 x d j => computeWord x 0b1111001#7 d j
  | .c_a1_c111010 x d j => computeWord x 0b1111010#7 d j
  | .c_a1_c111011 x d j => computeWord x 0b1111011#7 d j
  | .c_a1_c111100 x d j => computeWord x 0b1111100#7 d j
  | .c_a1_c111101 x d j => computeWord x 0b1111101#7 d j
  | .c_a1_c111110 x d j => computeWord x 0b1111110#7 d j
  | .c_a1_c111111 x d j => computeWord x 0b1111111#7 d j

end Sys2Proof
end

