-- ==== Sys2Proof/Config.lean ====
section
/-! DEFINITION. What an implementation fixes (the parameter unmappedPolicy of R58 and D1) and the free values of the
two combinational lines the spec leaves open. -/

namespace Sys2Proof

/-- The parameter `unmappedPolicy` (R58; 92_eei_decisions.md D1): what an instruction that uses M at a data address in
0x6001 to 0x7FFF does. It is an argument of the model, held in `State.unmappedPolicy`, which no step and no host
operation changes; its default is `fault`. -/
inductive UnmappedPolicy where
  /-- The access raises the model fault `UnmappedAccess(addressM)`. -/
  | fault
  /-- A read returns `key`, a write is ignored. -/
  | aliasKeyboard
  deriving DecidableEq, Repr

/-- FREE VALUE (notes/assumptions/5.md): the ALU output, hence `outM`, of a cycle that executes an A-instruction, as an
unconstrained function of the CPU's literal, A, D and inM of that cycle (R160, D10, U4: "any value"). No state reads it.
Safe. -/
opaque Config.addressCycleAluOut (literal : Addr) (a d inM : Word) : Word

/-- FREE VALUE (notes/assumptions/6.md): the word the memory controller outputs on `inM` at an unmapped address under
`unmappedPolicy = fault`, as an unconstrained function of the address and the keyboard line (R58, U2: "any value
(unused)"). An instruction that would use it has faulted before. Safe. -/
opaque Config.undrivenInM (addr : Addr) (key : Word) : Word

end Sys2Proof
end

