-- ==== Sys2Proof/Machine/State.lean ====
section
/-! DEFINITION. The state of the machine (spec/10_state.md R20), the environment's lines, the reasons a step can stop,
and the state right after machine initialization (spec/70_reset_and_hazards.md R250). All plain data. -/

namespace Sys2Proof.Machine

/-- A storage of 16-bit words, the smallest addressable unit (R51): a list of (word index, word) pairs, indices
strictly rising, no entry equal to 0. A word that is not listed reads as 0, its value at machine initialization (R250,
R65). Word cells, no bytes: DESIGN CHOICE, safe (notes/assumptions/4.md). -/
abbrev Memory := List (Nat × Word)

/-- The canonical form from index `lo` on, all indices below `hi`. -/
def Memory.wfFrom (lo hi : Nat) : Memory → Bool
  | [] => true
  | (k, v) :: m => decide (lo ≤ k) && decide (k < hi) && decide (v ≠ 0#16) && Memory.wfFrom (k + 1) hi m

/-- The canonical form of a storage of `size` words: indices below `size` and strictly rising, no listed 0. -/
def Memory.wf (size : Nat) (m : Memory) : Bool := Memory.wfFrom 0 size m

/-- The environment's inputs of one cycle (R29, R34; R234 `step()`): the keyboard's key code and the reset bit. -/
structure CycleInput where
  /-- the key code, "or 0 for none" (R34, R230) -/
  key : Word
  /-- "a single external boolean sampled once per cycle" (R29, R251) -/
  reset : Bool
  deriving DecidableEq, Repr

/-- The two model faults (R221). Both are SAFE: the model stops where the source's machine would go on. -/
inductive Fault where
  /-- Raised by the fetch (`nextInstr`) when `u(PC) ≥ n`; records the 15-bit PC (R71, R221). Safe. -/
  | fetchOutsideImage (pc : Addr)
  /-- Raised by a C-instruction (`executeCompute`) with `a = 1` or `dM = 1` at `addressM` in 0x6001 to 0x7FFF under
  `unmappedPolicy = fault`; records the 15-bit addressM (R58, R221). Safe. -/
  | unmappedAccess (addressM : Addr)
  deriving DecidableEq, Repr

/-- Why the model gives an instruction no meaning. -/
inductive Refusal where
  /-- An arm of `exec` that has no meaning yet, by its mnemonic. No arm of this model answers it. Safe. -/
  | notModelled (mnemonic : String)
  deriving DecidableEq, Repr

/-- The machine's state and the environment's lines. -/
structure State where
  /-- Register A, 16 bits (R20, R21) -/
  a : Word
  /-- Register D, 16 bits (R20, R22) -/
  d : Word
  /-- The program counter, 15 bits (R20, R24) -/
  pc : Addr
  /-- RAM, 16384 words, by word index (R20, R55) -/
  ram : Memory
  /-- The Screen framebuffer, 8192 words, by word index (R20, R56, R229) -/
  screen : Memory
  /-- The program image: ROM address `i` holds `rom[i]`; its length is the `n` of R71 (R20, R32, R235) -/
  rom : List Word
  /-- The environment's lines in the present cycle: `key` and `reset` (R29, R34) -/
  input : CycleInput
  /-- What the environment drives in the cycles to come, one entry a cycle, each arbitrary (R34, D11); where it ends,
  the lines stay as they are (DESIGN CHOICE, notes/assumptions/1.md) -/
  upcoming : List CycleInput
  /-- The parameter `unmappedPolicy` (R58, D1); never written (DESIGN CHOICE to hold it here, notes/assumptions/2.md) -/
  unmappedPolicy : UnmappedPolicy
  /-- The model fault recorded, if one was raised: terminal and sticky (R221, D17; notes/assumptions/7.md) -/
  stopped : Option Fault
  deriving DecidableEq, Repr

/-- The host operation `new` (R234, R250): A, D, PC and every RAM and Screen word 0, no program image loaded yet
(R255). The lines idle (no key, reset low) and no input to come: DESIGN CHOICE, unsafe, notes/assumptions/1.md. -/
def State.new (policy : UnmappedPolicy) : State where
  a := 0
  d := 0
  pc := 0
  ram := []
  screen := []
  rom := []
  input := ⟨0, false⟩
  upcoming := []
  unmappedPolicy := policy
  stopped := none

/-- The machine right after machine initialization (R250), with the spec's default `unmappedPolicy = fault` (R58). The
host's operation `reset()` on a running machine is `State.hostReset`. -/
def State.reset : State := State.new .fault

end Sys2Proof.Machine
end

