-- ==== Sys2Proof/Machine/Flags.lean ====
section
/-! DEFINITION. The two combinational status outputs and the jump condition (R25, R115, R116, R191 to R198). They are
not stored: no flag is state. -/

namespace Sys2Proof.Machine

/-- `zr`: "1 iff out == 0", all 16 bits zero (R115). -/
def zr (out : Word) : Bool := out == 0#16

/-- `ng`: bit 15 of `out` (R116). -/
def ng (out : Word) : Bool := out.getLsbD 15

/-- "at least one of: (jumpLT and ng), (jumpEQ and zr), (jumpGT and neither ng nor zr)" (43_c_instruction.md section 4,
R153 step 7). -/
def jumpTaken (j : Jump) (zrBit ngBit : Bool) : Bool :=
  (j.lt && ngBit) || (j.eq && zrBit) || (j.gt && !ngBit && !zrBit)

end Sys2Proof.Machine
end

