-- ==== Sys2Proof/Machine/Alu.lean ====
section
/-! DEFINITION. The ALU: a pure function in four stages (R110 to R117). -/

namespace Sys2Proof.Machine

/-- The ALU's outputs (R31, R110). -/
structure AluResult where
  out : Word
  zr : Bool
  ng : Bool
  deriving DecidableEq, Repr

/-- Stage 1, and stage 2 the same way: "If zx, replace x with 0. If nx, replace x with its bitwise complement", in
that order (R111, R112; 90_conflicts.md C5). -/
def aluPrepare (zero negate : Bool) (v : Word) : Word :=
  let v1 := if zero then 0#16 else v
  if negate then ~~~v1 else v1

/-- Stage 3: addition modulo 2^16, the carry out discarded, or bitwise AND (R113, R118). -/
def aluCombine (f : Bool) (x y : Word) : Word := if f then x + y else x &&& y

/-- Stage 4: complement the result if `no` (R114). -/
def aluFinish (no : Bool) (r : Word) : Word := if no then ~~~r else r

/-- The value `out` of the four stages. -/
def aluOut (x y : Word) (c : AluControl) : Word :=
  aluFinish c.no (aluCombine c.f (aluPrepare c.zx c.nx x) (aluPrepare c.zy c.ny y))

/-- The ALU: `out`, with `zr` and `ng` computed on the final `out` (R110, R115, R116). -/
def alu (x y : Word) (c : AluControl) : AluResult :=
  ⟨aluOut x y c, Machine.zr (aluOut x y c), Machine.ng (aluOut x y c)⟩

end Sys2Proof.Machine
end

