-- ==== Sys2Proof/Machine/Operands.lean ====
section
/-! DEFINITION. The operand forms: the literal (R86), addressM and the jump target (R29, R158), the decoding of a data
address (R54) and of a word's ALU bits. -/

namespace Sys2Proof.Machine

/-- `trunc_15(v)`: bits 14 to 0 (R7). Bit 15 of A is dropped in `addressM` (R29, D5) and in a jump target (R158, D4):
UNVERIFIED, unsafe, notes/assumptions/8.md. -/
def trunc15 (v : Word) : Addr := v.setWidth 15

/-- `zext_16(v)`: the 15-bit literal with bit 15 = 0, neither sign-extended nor scaled (R7, R86). -/
def zext16 (v : Addr) : Word := v.setWidth 16

/-- The CPU's `addressM` port: the pre-commit A, truncated (R29, R153). -/
def addressM (s : State) : Addr := trunc15 s.a

/-- What a 15-bit data address names (R54, R63). -/
inductive Region where
  /-- RAM word `index` (R55) -/
  | ram (index : Nat)
  /-- Screen word `index` (R56) -/
  | screen (index : Nat)
  /-- the keyboard word, 0x6000 exactly (R57) -/
  | keyboard
  /-- 0x6001 to 0x7FFF (R58) -/
  | unmapped
  deriving DecidableEq, Repr

/-- The address decoder: by bits 14 and 13, and at `11` by the low bits all zero (R54). -/
def region (addr : Addr) : Region :=
  match addr.getLsbD 14, addr.getLsbD 13 with
  | false, _ => .ram (addr.extractLsb' 0 14).toNat
  | true, false => .screen (addr.extractLsb' 0 13).toNat
  | true, true => if addr.extractLsb' 0 13 = 0#13 then .keyboard else .unmapped

/-- The ALU control bits a six-bit pattern `zx nx zy ny f no` stands for, as the tables of R94, R119 and R148 write it. -/
def aluControl (pattern : BitVec 6) : AluControl :=
  ⟨pattern.getLsbD 5, pattern.getLsbD 4, pattern.getLsbD 3, pattern.getLsbD 2, pattern.getLsbD 1, pattern.getLsbD 0⟩

end Sys2Proof.Machine
end

