-- ==== Sys2Proof/Machine/Ops.lean ====
section
/-! DEFINITION. The named operations over memory, registers and the cycle: the storages, the memory controller (R54),
the sequential cells (R150, R151), the commit (R153 step 8), the one model fault a cycle's execution can raise (R58), the
two shared executions, and the fetch (R71). The hardware has no trap entry and no trap return (R225, R226). -/

namespace Sys2Proof.Machine

/-! ### One storage -/

/-- The word at an index; 0 where none is listed (R250). -/
def Memory.read (m : Memory) (index : Nat) : Word :=
  match m with
  | [] => 0#16
  | (k, v) :: rest => if k = index then v else Memory.read rest index

/-- The storage without an entry for the index. -/
def Memory.erase (m : Memory) (index : Nat) : Memory :=
  match m with
  | [] => []
  | (k, v) :: rest => if k = index then Memory.erase rest index else (k, v) :: Memory.erase rest index

/-- The entry put before the first greater index. -/
def Memory.place (m : Memory) (index : Nat) (v : Word) : Memory :=
  match m with
  | [] => [(index, v)]
  | (k, w) :: rest => if index < k then (index, v) :: (k, w) :: rest else (k, w) :: Memory.place rest index v

/-- One word replaced, in canonical form: writing 0 leaves no entry. -/
def Memory.write (m : Memory) (index : Nat) (v : Word) : Memory :=
  if v = 0#16 then m.erase index else (m.erase index).place index v

/-! ### The memory controller (R30, R54) -/

/-- `MemRead(addr, 1)`: the word the controller outputs in the present cycle, as the storages stood at its start; a
read has no side effect (R54 to R59). -/
def memRead (s : State) (addr : Addr) : Word :=
  match region addr with
  | .ram k => s.ram.read k
  | .screen k => s.screen.read k
  | .keyboard => s.input.key
  | .unmapped =>
    match s.unmappedPolicy with
    | .aliasKeyboard => s.input.key
    | .fault => Config.undrivenInM addr s.input.key

/-- `MemWrite(addr, 1, v)` at the edge, gated by `load`; a write to the keyboard, or to an unmapped address that did not
fault, is ignored (R54, R57, R58, R60). -/
def memWrite (s : State) (load : Bool) (addr : Addr) (v : Word) : State :=
  if load then
    match region addr with
    | .ram k => { s with ram := s.ram.write k v }
    | .screen k => { s with screen := s.screen.write k v }
    | .keyboard => s
    | .unmapped => s
  else s

/-! ### The sequential cells and the commit -/

/-- A register's value after the edge (R150). -/
def registerNext (load : Bool) (inValue cur : Word) : Word := if load then inValue else cur

/-- The ProgramCounter's value after the edge: reset over load over increment (R151); the increment wraps modulo 2^15
(R157, D3: UNVERIFIED, unsafe, notes/assumptions/8.md). -/
def programCounterNext (reset load inc : Bool) (inValue cur : Addr) : Addr :=
  if reset then 0#15 else if load then inValue else if inc then cur + 1#15 else cur

/-- What the CPU computes in a cycle: its memory ports outM and writeM (R29; `addressM` is the function of that name),
the value A may load, the load enables and the jump line (R153 steps 3 to 7). D loads outM's value, the ALU output. -/
structure CpuOut where
  loadA : Bool
  nextA : Word
  loadD : Bool
  outM : Word
  writeM : Bool
  jump : Bool
  deriving DecidableEq, Repr

/-- The environment's lines in the next cycle (R34, R230; DESIGN CHOICE, notes/assumptions/1.md). -/
def nextInput (s : State) : CycleInput := s.upcoming.headD s.input

/-- Step 8 of the cycle: everything commits at once at the edge, from pre-commit values (R153, R154). `inc = 1` (R151).
In a cycle with
reset = 1 every other write commits too (R252, D9: UNVERIFIED, unsafe, notes/assumptions/11.md). The environment's lines
then take their values of the next cycle. -/
def commit (s : State) (o : CpuOut) : State :=
  { memWrite s o.writeM (addressM s) o.outM with
    a := registerNext o.loadA o.nextA s.a
    d := registerNext o.loadD o.outM s.d
    pc := programCounterNext s.input.reset o.jump true (trunc15 s.a) s.pc
    input := nextInput s
    upcoming := s.upcoming.tail }

/-! ### The model fault of an access -/

/-- The fault a C-instruction raises, if any: `UnmappedAccess(addressM)` when it uses M (`a = 1` or `dM = 1`) at an
unmapped `addressM` under `unmappedPolicy = fault` (R58, R153). -/
def unmappedFault (s : State) (a destM : Bool) : Option Fault :=
  if (a || destM) = true ∧ region (addressM s) = .unmapped ∧ s.unmappedPolicy = .fault then
    some (.unmappedAccess (addressM s))
  else none

/-! ### The two shared executions -/

/-- The ALU's second operand: A when `a = 0`, `inM` when `a = 1` (R84, R87, R181, R182; D7). -/
def operandY (s : State) (a : Bool) : Word := if a then memRead s (addressM s) else s.a

/-- The CPU's outputs in a cycle of an A-instruction: A loads the literal, no other store, no jump (R88, R170); the ALU
output is a free value (R160). -/
def addressCycle (s : State) (literal : Addr) : CpuOut :=
  { loadA := true, nextA := zext16 literal, loadD := false,
    outM := Config.addressCycleAluOut literal s.a s.d (memRead s (addressM s)), writeM := false, jump := false }

/-- The CPU's outputs in a cycle of a C-instruction with the ALU result `r` (R180, R183 to R198). -/
def computeCycle (r : AluResult) (d : Dest) (j : Jump) : CpuOut :=
  { loadA := d.toA, nextA := r.out, loadD := d.toD, outM := r.out, writeM := d.toM, jump := jumpTaken j r.zr r.ng }

/-- The A-instruction's cycle (R170). -/
def executeAddress (literal : Addr) (s : State) : Host.Outcome State Fault Refusal :=
  .next (commit s (addressCycle s literal))

/-- A C-instruction's cycle (R180): a raised fault ends it with no commit at all (R153, R221). -/
def executeCompute (a : Bool) (c : AluControl) (d : Dest) (j : Jump) (s : State) :
    Host.Outcome State Fault Refusal :=
  match unmappedFault s a d.toM with
  | some f => .fault f
  | none => .next (commit s (computeCycle (alu s.d (operandY s a) c) d j))

/-- A selection with `a = 0`: `y = A`; `pattern` is `zx nx zy ny f no` (R181). -/
def executeRegister (pattern : BitVec 6) (d : Dest) (j : Jump) (s : State) : Host.Outcome State Fault Refusal :=
  executeCompute false (aluControl pattern) d j s

/-- A selection with `a = 1`: `y = inM`; `pattern` is `zx nx zy ny f no` (R181, R182). -/
def executeMemory (pattern : BitVec 6) (d : Dest) (j : Jump) (s : State) : Host.Outcome State Fault Refusal :=
  executeCompute true (aluControl pattern) d j s

/-! ### The fetch -/

/-- `RomRead(PC)`, where PC lies in the image (R8, R32, R71). -/
def fetch (s : State) : Option Word := s.rom[s.pc.toNat]?

/-- The instruction of the cycle. After a recorded fault there is no further step (R221); `FetchOutsideImage(PC)` is
raised before anything of the cycle is computed (R71, R224). -/
def nextInstr (s : State) : Except Fault Instr :=
  match s.stopped with
  | some f => .error f
  | none =>
    match fetch s with
    | none => .error (.fetchOutsideImage s.pc)
    | some w => .ok (decode w)

/-- An image with `w` at `index` and every other word kept; words missing below `index` are filled with 0x0000. -/
def placeWord (rom : List Word) (index : Nat) (w : Word) : List Word :=
  match rom, index with
  | [], 0 => [w]
  | _ :: rest, 0 => w :: rest
  | [], k + 1 => 0#16 :: placeWord [] k w
  | v :: rest, k + 1 => v :: placeWord rest k w

end Sys2Proof.Machine
end

