-- ==== Sys2Proof/Machine/AInstruction.lean ====
section
/-! DEFINITION. The meaning of the A-instruction (spec/42_a_instruction.md R170). -/

namespace Sys2Proof.Machine

/-- `@value`: A takes the zero-extended literal; D, RAM and Screen unchanged, no jump, never a fault of its own (R170) -/
def execAtValue (value : Addr) (s : State) : Host.Outcome State Fault Refusal :=
  executeAddress value s

end Sys2Proof.Machine
end

