-- ==== Sys2Proof/Machine/NamedMemory.lean ====
section
/-! DEFINITION. The meanings of the 10 selections with a mnemonic and a = 1 (R138 to R147): the ALU pattern each selects, run on D and M. -/

namespace Sys2Proof.Machine

/-- `M` (R138) -/
def execCompM (d : Dest) (j : Jump) (s : State) : Host.Outcome State Fault Refusal :=
  executeMemory 0b110000#6 d j s

/-- `!M` (R139) -/
def execCompNotM (d : Dest) (j : Jump) (s : State) : Host.Outcome State Fault Refusal :=
  executeMemory 0b110001#6 d j s

/-- `-M` (R140) -/
def execCompNegM (d : Dest) (j : Jump) (s : State) : Host.Outcome State Fault Refusal :=
  executeMemory 0b110011#6 d j s

/-- `M+1` (R141) -/
def execCompMPlusOne (d : Dest) (j : Jump) (s : State) : Host.Outcome State Fault Refusal :=
  executeMemory 0b110111#6 d j s

/-- `M-1` (R142) -/
def execCompMMinusOne (d : Dest) (j : Jump) (s : State) : Host.Outcome State Fault Refusal :=
  executeMemory 0b110010#6 d j s

/-- `D+M` (R143) -/
def execCompDPlusM (d : Dest) (j : Jump) (s : State) : Host.Outcome State Fault Refusal :=
  executeMemory 0b000010#6 d j s

/-- `D-M` (R144) -/
def execCompDMinusM (d : Dest) (j : Jump) (s : State) : Host.Outcome State Fault Refusal :=
  executeMemory 0b010011#6 d j s

/-- `M-D` (R145) -/
def execCompMMinusD (d : Dest) (j : Jump) (s : State) : Host.Outcome State Fault Refusal :=
  executeMemory 0b000111#6 d j s

/-- `D&M` (R146) -/
def execCompDAndM (d : Dest) (j : Jump) (s : State) : Host.Outcome State Fault Refusal :=
  executeMemory 0b000000#6 d j s

/-- `D|M` (R147) -/
def execCompDOrM (d : Dest) (j : Jump) (s : State) : Host.Outcome State Fault Refusal :=
  executeMemory 0b010101#6 d j s

end Sys2Proof.Machine
end

