-- ==== Sys2Proof/Machine/NamedRegister.lean ====
section
/-! DEFINITION. The meanings of the 18 selections with a mnemonic and a = 0 (R120 to R137): the ALU pattern each selects, run on D and A. -/

namespace Sys2Proof.Machine

/-- `0` (R120) -/
def execCompZero (d : Dest) (j : Jump) (s : State) : Host.Outcome State Fault Refusal :=
  executeRegister 0b101010#6 d j s

/-- `1` (R121) -/
def execCompOne (d : Dest) (j : Jump) (s : State) : Host.Outcome State Fault Refusal :=
  executeRegister 0b111111#6 d j s

/-- `-1` (R122) -/
def execCompMinusOne (d : Dest) (j : Jump) (s : State) : Host.Outcome State Fault Refusal :=
  executeRegister 0b111010#6 d j s

/-- `D` (R123) -/
def execCompD (d : Dest) (j : Jump) (s : State) : Host.Outcome State Fault Refusal :=
  executeRegister 0b001100#6 d j s

/-- `A` (R124) -/
def execCompA (d : Dest) (j : Jump) (s : State) : Host.Outcome State Fault Refusal :=
  executeRegister 0b110000#6 d j s

/-- `!D` (R125) -/
def execCompNotD (d : Dest) (j : Jump) (s : State) : Host.Outcome State Fault Refusal :=
  executeRegister 0b001101#6 d j s

/-- `!A` (R126) -/
def execCompNotA (d : Dest) (j : Jump) (s : State) : Host.Outcome State Fault Refusal :=
  executeRegister 0b110001#6 d j s

/-- `-D` (R127) -/
def execCompNegD (d : Dest) (j : Jump) (s : State) : Host.Outcome State Fault Refusal :=
  executeRegister 0b001111#6 d j s

/-- `-A` (R128) -/
def execCompNegA (d : Dest) (j : Jump) (s : State) : Host.Outcome State Fault Refusal :=
  executeRegister 0b110011#6 d j s

/-- `D+1` (R129) -/
def execCompDPlusOne (d : Dest) (j : Jump) (s : State) : Host.Outcome State Fault Refusal :=
  executeRegister 0b011111#6 d j s

/-- `A+1` (R130) -/
def execCompAPlusOne (d : Dest) (j : Jump) (s : State) : Host.Outcome State Fault Refusal :=
  executeRegister 0b110111#6 d j s

/-- `D-1` (R131) -/
def execCompDMinusOne (d : Dest) (j : Jump) (s : State) : Host.Outcome State Fault Refusal :=
  executeRegister 0b001110#6 d j s

/-- `A-1` (R132) -/
def execCompAMinusOne (d : Dest) (j : Jump) (s : State) : Host.Outcome State Fault Refusal :=
  executeRegister 0b110010#6 d j s

/-- `D+A` (R133) -/
def execCompDPlusA (d : Dest) (j : Jump) (s : State) : Host.Outcome State Fault Refusal :=
  executeRegister 0b000010#6 d j s

/-- `D-A` (R134) -/
def execCompDMinusA (d : Dest) (j : Jump) (s : State) : Host.Outcome State Fault Refusal :=
  executeRegister 0b010011#6 d j s

/-- `A-D` (R135) -/
def execCompAMinusD (d : Dest) (j : Jump) (s : State) : Host.Outcome State Fault Refusal :=
  executeRegister 0b000111#6 d j s

/-- `D&A` (R136) -/
def execCompDAndA (d : Dest) (j : Jump) (s : State) : Host.Outcome State Fault Refusal :=
  executeRegister 0b000000#6 d j s

/-- `D|A` (R137) -/
def execCompDOrA (d : Dest) (j : Jump) (s : State) : Host.Outcome State Fault Refusal :=
  executeRegister 0b010101#6 d j s

end Sys2Proof.Machine
end

