-- ==== Sys2Proof/Machine/UnnamedMemory.lean ====
section
/-! DEFINITION. The meanings of the 54 selections without a mnemonic and a = 1 (R148): the ALU pattern each selects, run on D and M. -/

namespace Sys2Proof.Machine

/-- `C_a1_c000001`: `!(D&M)` (R148) -/
def execC_a1_c000001 (d : Dest) (j : Jump) (s : State) : Host.Outcome State Fault Refusal :=
  executeMemory 0b000001#6 d j s

/-- `C_a1_c000011`: `-D-M-1` (R148) -/
def execC_a1_c000011 (d : Dest) (j : Jump) (s : State) : Host.Outcome State Fault Refusal :=
  executeMemory 0b000011#6 d j s

/-- `C_a1_c000100`: `D&!M` (R148) -/
def execC_a1_c000100 (d : Dest) (j : Jump) (s : State) : Host.Outcome State Fault Refusal :=
  executeMemory 0b000100#6 d j s

/-- `C_a1_c000101`: `!D|M` (R148) -/
def execC_a1_c000101 (d : Dest) (j : Jump) (s : State) : Host.Outcome State Fault Refusal :=
  executeMemory 0b000101#6 d j s

/-- `C_a1_c000110`: `D-M-1` (R148) -/
def execC_a1_c000110 (d : Dest) (j : Jump) (s : State) : Host.Outcome State Fault Refusal :=
  executeMemory 0b000110#6 d j s

/-- `C_a1_c001000`: `0` (R148) -/
def execC_a1_c001000 (d : Dest) (j : Jump) (s : State) : Host.Outcome State Fault Refusal :=
  executeMemory 0b001000#6 d j s

/-- `C_a1_c001001`: `-1` (R148) -/
def execC_a1_c001001 (d : Dest) (j : Jump) (s : State) : Host.Outcome State Fault Refusal :=
  executeMemory 0b001001#6 d j s

/-- `C_a1_c001010`: `D` (R148) -/
def execC_a1_c001010 (d : Dest) (j : Jump) (s : State) : Host.Outcome State Fault Refusal :=
  executeMemory 0b001010#6 d j s

/-- `C_a1_c001011`: `-D-1` (R148) -/
def execC_a1_c001011 (d : Dest) (j : Jump) (s : State) : Host.Outcome State Fault Refusal :=
  executeMemory 0b001011#6 d j s

/-- `C_a1_c001100`: `D` (R148) -/
def execC_a1_c001100 (d : Dest) (j : Jump) (s : State) : Host.Outcome State Fault Refusal :=
  executeMemory 0b001100#6 d j s

/-- `C_a1_c001101`: `!D` (R148) -/
def execC_a1_c001101 (d : Dest) (j : Jump) (s : State) : Host.Outcome State Fault Refusal :=
  executeMemory 0b001101#6 d j s

/-- `C_a1_c001110`: `D-1` (R148) -/
def execC_a1_c001110 (d : Dest) (j : Jump) (s : State) : Host.Outcome State Fault Refusal :=
  executeMemory 0b001110#6 d j s

/-- `C_a1_c001111`: `-D` (R148) -/
def execC_a1_c001111 (d : Dest) (j : Jump) (s : State) : Host.Outcome State Fault Refusal :=
  executeMemory 0b001111#6 d j s

/-- `C_a1_c010000`: `!D&M` (R148) -/
def execC_a1_c010000 (d : Dest) (j : Jump) (s : State) : Host.Outcome State Fault Refusal :=
  executeMemory 0b010000#6 d j s

/-- `C_a1_c010001`: `D|!M` (R148) -/
def execC_a1_c010001 (d : Dest) (j : Jump) (s : State) : Host.Outcome State Fault Refusal :=
  executeMemory 0b010001#6 d j s

/-- `C_a1_c010010`: `-D+M-1` (R148) -/
def execC_a1_c010010 (d : Dest) (j : Jump) (s : State) : Host.Outcome State Fault Refusal :=
  executeMemory 0b010010#6 d j s

/-- `C_a1_c010100`: `!(D|M)` (R148) -/
def execC_a1_c010100 (d : Dest) (j : Jump) (s : State) : Host.Outcome State Fault Refusal :=
  executeMemory 0b010100#6 d j s

/-- `C_a1_c010110`: `-D-M-2` (R148) -/
def execC_a1_c010110 (d : Dest) (j : Jump) (s : State) : Host.Outcome State Fault Refusal :=
  executeMemory 0b010110#6 d j s

/-- `C_a1_c010111`: `D+M+1` (R148) -/
def execC_a1_c010111 (d : Dest) (j : Jump) (s : State) : Host.Outcome State Fault Refusal :=
  executeMemory 0b010111#6 d j s

/-- `C_a1_c011000`: `0` (R148) -/
def execC_a1_c011000 (d : Dest) (j : Jump) (s : State) : Host.Outcome State Fault Refusal :=
  executeMemory 0b011000#6 d j s

/-- `C_a1_c011001`: `-1` (R148) -/
def execC_a1_c011001 (d : Dest) (j : Jump) (s : State) : Host.Outcome State Fault Refusal :=
  executeMemory 0b011001#6 d j s

/-- `C_a1_c011010`: `-D-1` (R148) -/
def execC_a1_c011010 (d : Dest) (j : Jump) (s : State) : Host.Outcome State Fault Refusal :=
  executeMemory 0b011010#6 d j s

/-- `C_a1_c011011`: `D` (R148) -/
def execC_a1_c011011 (d : Dest) (j : Jump) (s : State) : Host.Outcome State Fault Refusal :=
  executeMemory 0b011011#6 d j s

/-- `C_a1_c011100`: `!D` (R148) -/
def execC_a1_c011100 (d : Dest) (j : Jump) (s : State) : Host.Outcome State Fault Refusal :=
  executeMemory 0b011100#6 d j s

/-- `C_a1_c011101`: `D` (R148) -/
def execC_a1_c011101 (d : Dest) (j : Jump) (s : State) : Host.Outcome State Fault Refusal :=
  executeMemory 0b011101#6 d j s

/-- `C_a1_c011110`: `-D-2` (R148) -/
def execC_a1_c011110 (d : Dest) (j : Jump) (s : State) : Host.Outcome State Fault Refusal :=
  executeMemory 0b011110#6 d j s

/-- `C_a1_c011111`: `D+1` (R148) -/
def execC_a1_c011111 (d : Dest) (j : Jump) (s : State) : Host.Outcome State Fault Refusal :=
  executeMemory 0b011111#6 d j s

/-- `C_a1_c100000`: `0` (R148) -/
def execC_a1_c100000 (d : Dest) (j : Jump) (s : State) : Host.Outcome State Fault Refusal :=
  executeMemory 0b100000#6 d j s

/-- `C_a1_c100001`: `-1` (R148) -/
def execC_a1_c100001 (d : Dest) (j : Jump) (s : State) : Host.Outcome State Fault Refusal :=
  executeMemory 0b100001#6 d j s

/-- `C_a1_c100010`: `M` (R148) -/
def execC_a1_c100010 (d : Dest) (j : Jump) (s : State) : Host.Outcome State Fault Refusal :=
  executeMemory 0b100010#6 d j s

/-- `C_a1_c100011`: `-M-1` (R148) -/
def execC_a1_c100011 (d : Dest) (j : Jump) (s : State) : Host.Outcome State Fault Refusal :=
  executeMemory 0b100011#6 d j s

/-- `C_a1_c100100`: `0` (R148) -/
def execC_a1_c100100 (d : Dest) (j : Jump) (s : State) : Host.Outcome State Fault Refusal :=
  executeMemory 0b100100#6 d j s

/-- `C_a1_c100101`: `-1` (R148) -/
def execC_a1_c100101 (d : Dest) (j : Jump) (s : State) : Host.Outcome State Fault Refusal :=
  executeMemory 0b100101#6 d j s

/-- `C_a1_c100110`: `-M-1` (R148) -/
def execC_a1_c100110 (d : Dest) (j : Jump) (s : State) : Host.Outcome State Fault Refusal :=
  executeMemory 0b100110#6 d j s

/-- `C_a1_c100111`: `M` (R148) -/
def execC_a1_c100111 (d : Dest) (j : Jump) (s : State) : Host.Outcome State Fault Refusal :=
  executeMemory 0b100111#6 d j s

/-- `C_a1_c101000`: `0` (R148) -/
def execC_a1_c101000 (d : Dest) (j : Jump) (s : State) : Host.Outcome State Fault Refusal :=
  executeMemory 0b101000#6 d j s

/-- `C_a1_c101001`: `-1` (R148) -/
def execC_a1_c101001 (d : Dest) (j : Jump) (s : State) : Host.Outcome State Fault Refusal :=
  executeMemory 0b101001#6 d j s

/-- `C_a1_c101010`: `0` (R148) -/
def execC_a1_c101010 (d : Dest) (j : Jump) (s : State) : Host.Outcome State Fault Refusal :=
  executeMemory 0b101010#6 d j s

/-- `C_a1_c101011`: `-1` (R148) -/
def execC_a1_c101011 (d : Dest) (j : Jump) (s : State) : Host.Outcome State Fault Refusal :=
  executeMemory 0b101011#6 d j s

/-- `C_a1_c101100`: `0` (R148) -/
def execC_a1_c101100 (d : Dest) (j : Jump) (s : State) : Host.Outcome State Fault Refusal :=
  executeMemory 0b101100#6 d j s

/-- `C_a1_c101101`: `-1` (R148) -/
def execC_a1_c101101 (d : Dest) (j : Jump) (s : State) : Host.Outcome State Fault Refusal :=
  executeMemory 0b101101#6 d j s

/-- `C_a1_c101110`: `-1` (R148) -/
def execC_a1_c101110 (d : Dest) (j : Jump) (s : State) : Host.Outcome State Fault Refusal :=
  executeMemory 0b101110#6 d j s

/-- `C_a1_c101111`: `0` (R148) -/
def execC_a1_c101111 (d : Dest) (j : Jump) (s : State) : Host.Outcome State Fault Refusal :=
  executeMemory 0b101111#6 d j s

/-- `C_a1_c110100`: `!M` (R148) -/
def execC_a1_c110100 (d : Dest) (j : Jump) (s : State) : Host.Outcome State Fault Refusal :=
  executeMemory 0b110100#6 d j s

/-- `C_a1_c110101`: `M` (R148) -/
def execC_a1_c110101 (d : Dest) (j : Jump) (s : State) : Host.Outcome State Fault Refusal :=
  executeMemory 0b110101#6 d j s

/-- `C_a1_c110110`: `-M-2` (R148) -/
def execC_a1_c110110 (d : Dest) (j : Jump) (s : State) : Host.Outcome State Fault Refusal :=
  executeMemory 0b110110#6 d j s

/-- `C_a1_c111000`: `0` (R148) -/
def execC_a1_c111000 (d : Dest) (j : Jump) (s : State) : Host.Outcome State Fault Refusal :=
  executeMemory 0b111000#6 d j s

/-- `C_a1_c111001`: `-1` (R148) -/
def execC_a1_c111001 (d : Dest) (j : Jump) (s : State) : Host.Outcome State Fault Refusal :=
  executeMemory 0b111001#6 d j s

/-- `C_a1_c111010`: `-1` (R148) -/
def execC_a1_c111010 (d : Dest) (j : Jump) (s : State) : Host.Outcome State Fault Refusal :=
  executeMemory 0b111010#6 d j s

/-- `C_a1_c111011`: `0` (R148) -/
def execC_a1_c111011 (d : Dest) (j : Jump) (s : State) : Host.Outcome State Fault Refusal :=
  executeMemory 0b111011#6 d j s

/-- `C_a1_c111100`: `-1` (R148) -/
def execC_a1_c111100 (d : Dest) (j : Jump) (s : State) : Host.Outcome State Fault Refusal :=
  executeMemory 0b111100#6 d j s

/-- `C_a1_c111101`: `0` (R148) -/
def execC_a1_c111101 (d : Dest) (j : Jump) (s : State) : Host.Outcome State Fault Refusal :=
  executeMemory 0b111101#6 d j s

/-- `C_a1_c111110`: `-2` (R148) -/
def execC_a1_c111110 (d : Dest) (j : Jump) (s : State) : Host.Outcome State Fault Refusal :=
  executeMemory 0b111110#6 d j s

/-- `C_a1_c111111`: `1` (R148) -/
def execC_a1_c111111 (d : Dest) (j : Jump) (s : State) : Host.Outcome State Fault Refusal :=
  executeMemory 0b111111#6 d j s

end Sys2Proof.Machine
end

