-- ==== Sys2Proof/Machine/Dispatch.lean ====
section
/-! DEFINITION. One arm per instruction. A C-instruction's ignored bits 14:13 reach no meaning (R85). -/

namespace Sys2Proof.Machine

def exec (i : Instr) (s : State) : Host.Outcome State Fault Refusal :=
  match i with
  | .atValue value => Sys2Proof.Machine.execAtValue value s
  | .compDAndA _ d j => Sys2Proof.Machine.execCompDAndA d j s
  | .c_a0_c000001 _ d j => Sys2Proof.Machine.execC_a0_c000001 d j s
  | .compDPlusA _ d j => Sys2Proof.Machine.execCompDPlusA d j s
  | .c_a0_c000011 _ d j => Sys2Proof.Machine.execC_a0_c000011 d j s
  | .c_a0_c000100 _ d j => Sys2Proof.Machine.execC_a0_c000100 d j s
  | .c_a0_c000101 _ d j => Sys2Proof.Machine.execC_a0_c000101 d j s
  | .c_a0_c000110 _ d j => Sys2Proof.Machine.execC_a0_c000110 d j s
  | .compAMinusD _ d j => Sys2Proof.Machine.execCompAMinusD d j s
  | .c_a0_c001000 _ d j => Sys2Proof.Machine.execC_a0_c001000 d j s
  | .c_a0_c001001 _ d j => Sys2Proof.Machine.execC_a0_c001001 d j s
  | .c_a0_c001010 _ d j => Sys2Proof.Machine.execC_a0_c001010 d j s
  | .c_a0_c001011 _ d j => Sys2Proof.Machine.execC_a0_c001011 d j s
  | .compD _ d j => Sys2Proof.Machine.execCompD d j s
  | .compNotD _ d j => Sys2Proof.Machine.execCompNotD d j s
  | .compDMinusOne _ d j => Sys2Proof.Machine.execCompDMinusOne d j s
  | .compNegD _ d j => Sys2Proof.Machine.execCompNegD d j s
  | .c_a0_c010000 _ d j => Sys2Proof.Machine.execC_a0_c010000 d j s
  | .c_a0_c010001 _ d j => Sys2Proof.Machine.execC_a0_c010001 d j s
  | .c_a0_c010010 _ d j => Sys2Proof.Machine.execC_a0_c010010 d j s
  | .compDMinusA _ d j => Sys2Proof.Machine.execCompDMinusA d j s
  | .c_a0_c010100 _ d j => Sys2Proof.Machine.execC_a0_c010100 d j s
  | .compDOrA _ d j => Sys2Proof.Machine.execCompDOrA d j s
  | .c_a0_c010110 _ d j => Sys2Proof.Machine.execC_a0_c010110 d j s
  | .c_a0_c010111 _ d j => Sys2Proof.Machine.execC_a0_c010111 d j s
  | .c_a0_c011000 _ d j => Sys2Proof.Machine.execC_a0_c011000 d j s
  | .c_a0_c011001 _ d j => Sys2Proof.Machine.execC_a0_c011001 d j s
  | .c_a0_c011010 _ d j => Sys2Proof.Machine.execC_a0_c011010 d j s
  | .c_a0_c011011 _ d j => Sys2Proof.Machine.execC_a0_c011011 d j s
  | .c_a0_c011100 _ d j => Sys2Proof.Machine.execC_a0_c011100 d j s
  | .c_a0_c011101 _ d j => Sys2Proof.Machine.execC_a0_c011101 d j s
  | .c_a0_c011110 _ d j => Sys2Proof.Machine.execC_a0_c011110 d j s
  | .compDPlusOne _ d j => Sys2Proof.Machine.execCompDPlusOne d j s
  | .c_a0_c100000 _ d j => Sys2Proof.Machine.execC_a0_c100000 d j s
  | .c_a0_c100001 _ d j => Sys2Proof.Machine.execC_a0_c100001 d j s
  | .c_a0_c100010 _ d j => Sys2Proof.Machine.execC_a0_c100010 d j s
  | .c_a0_c100011 _ d j => Sys2Proof.Machine.execC_a0_c100011 d j s
  | .c_a0_c100100 _ d j => Sys2Proof.Machine.execC_a0_c100100 d j s
  | .c_a0_c100101 _ d j => Sys2Proof.Machine.execC_a0_c100101 d j s
  | .c_a0_c100110 _ d j => Sys2Proof.Machine.execC_a0_c100110 d j s
  | .c_a0_c100111 _ d j => Sys2Proof.Machine.execC_a0_c100111 d j s
  | .c_a0_c101000 _ d j => Sys2Proof.Machine.execC_a0_c101000 d j s
  | .c_a0_c101001 _ d j => Sys2Proof.Machine.execC_a0_c101001 d j s
  | .compZero _ d j => Sys2Proof.Machine.execCompZero d j s
  | .c_a0_c101011 _ d j => Sys2Proof.Machine.execC_a0_c101011 d j s
  | .c_a0_c101100 _ d j => Sys2Proof.Machine.execC_a0_c101100 d j s
  | .c_a0_c101101 _ d j => Sys2Proof.Machine.execC_a0_c101101 d j s
  | .c_a0_c101110 _ d j => Sys2Proof.Machine.execC_a0_c101110 d j s
  | .c_a0_c101111 _ d j => Sys2Proof.Machine.execC_a0_c101111 d j s
  | .compA _ d j => Sys2Proof.Machine.execCompA d j s
  | .compNotA _ d j => Sys2Proof.Machine.execCompNotA d j s
  | .compAMinusOne _ d j => Sys2Proof.Machine.execCompAMinusOne d j s
  | .compNegA _ d j => Sys2Proof.Machine.execCompNegA d j s
  | .c_a0_c110100 _ d j => Sys2Proof.Machine.execC_a0_c110100 d j s
  | .c_a0_c110101 _ d j => Sys2Proof.Machine.execC_a0_c110101 d j s
  | .c_a0_c110110 _ d j => Sys2Proof.Machine.execC_a0_c110110 d j s
  | .compAPlusOne _ d j => Sys2Proof.Machine.execCompAPlusOne d j s
  | .c_a0_c111000 _ d j => Sys2Proof.Machine.execC_a0_c111000 d j s
  | .c_a0_c111001 _ d j => Sys2Proof.Machine.execC_a0_c111001 d j s
  | .compMinusOne _ d j => Sys2Proof.Machine.execCompMinusOne d j s
  | .c_a0_c111011 _ d j => Sys2Proof.Machine.execC_a0_c111011 d j s
  | .c_a0_c111100 _ d j => Sys2Proof.Machine.execC_a0_c111100 d j s
  | .c_a0_c111101 _ d j => Sys2Proof.Machine.execC_a0_c111101 d j s
  | .c_a0_c111110 _ d j => Sys2Proof.Machine.execC_a0_c111110 d j s
  | .compOne _ d j => Sys2Proof.Machine.execCompOne d j s
  | .compDAndM _ d j => Sys2Proof.Machine.execCompDAndM d j s
  | .c_a1_c000001 _ d j => Sys2Proof.Machine.execC_a1_c000001 d j s
  | .compDPlusM _ d j => Sys2Proof.Machine.execCompDPlusM d j s
  | .c_a1_c000011 _ d j => Sys2Proof.Machine.execC_a1_c000011 d j s
  | .c_a1_c000100 _ d j => Sys2Proof.Machine.execC_a1_c000100 d j s
  | .c_a1_c000101 _ d j => Sys2Proof.Machine.execC_a1_c000101 d j s
  | .c_a1_c000110 _ d j => Sys2Proof.Machine.execC_a1_c000110 d j s
  | .compMMinusD _ d j => Sys2Proof.Machine.execCompMMinusD d j s
  | .c_a1_c001000 _ d j => Sys2Proof.Machine.execC_a1_c001000 d j s
  | .c_a1_c001001 _ d j => Sys2Proof.Machine.execC_a1_c001001 d j s
  | .c_a1_c001010 _ d j => Sys2Proof.Machine.execC_a1_c001010 d j s
  | .c_a1_c001011 _ d j => Sys2Proof.Machine.execC_a1_c001011 d j s
  | .c_a1_c001100 _ d j => Sys2Proof.Machine.execC_a1_c001100 d j s
  | .c_a1_c001101 _ d j => Sys2Proof.Machine.execC_a1_c001101 d j s
  | .c_a1_c001110 _ d j => Sys2Proof.Machine.execC_a1_c001110 d j s
  | .c_a1_c001111 _ d j => Sys2Proof.Machine.execC_a1_c001111 d j s
  | .c_a1_c010000 _ d j => Sys2Proof.Machine.execC_a1_c010000 d j s
  | .c_a1_c010001 _ d j => Sys2Proof.Machine.execC_a1_c010001 d j s
  | .c_a1_c010010 _ d j => Sys2Proof.Machine.execC_a1_c010010 d j s
  | .compDMinusM _ d j => Sys2Proof.Machine.execCompDMinusM d j s
  | .c_a1_c010100 _ d j => Sys2Proof.Machine.execC_a1_c010100 d j s
  | .compDOrM _ d j => Sys2Proof.Machine.execCompDOrM d j s
  | .c_a1_c010110 _ d j => Sys2Proof.Machine.execC_a1_c010110 d j s
  | .c_a1_c010111 _ d j => Sys2Proof.Machine.execC_a1_c010111 d j s
  | .c_a1_c011000 _ d j => Sys2Proof.Machine.execC_a1_c011000 d j s
  | .c_a1_c011001 _ d j => Sys2Proof.Machine.execC_a1_c011001 d j s
  | .c_a1_c011010 _ d j => Sys2Proof.Machine.execC_a1_c011010 d j s
  | .c_a1_c011011 _ d j => Sys2Proof.Machine.execC_a1_c011011 d j s
  | .c_a1_c011100 _ d j => Sys2Proof.Machine.execC_a1_c011100 d j s
  | .c_a1_c011101 _ d j => Sys2Proof.Machine.execC_a1_c011101 d j s
  | .c_a1_c011110 _ d j => Sys2Proof.Machine.execC_a1_c011110 d j s
  | .c_a1_c011111 _ d j => Sys2Proof.Machine.execC_a1_c011111 d j s
  | .c_a1_c100000 _ d j => Sys2Proof.Machine.execC_a1_c100000 d j s
  | .c_a1_c100001 _ d j => Sys2Proof.Machine.execC_a1_c100001 d j s
  | .c_a1_c100010 _ d j => Sys2Proof.Machine.execC_a1_c100010 d j s
  | .c_a1_c100011 _ d j => Sys2Proof.Machine.execC_a1_c100011 d j s
  | .c_a1_c100100 _ d j => Sys2Proof.Machine.execC_a1_c100100 d j s
  | .c_a1_c100101 _ d j => Sys2Proof.Machine.execC_a1_c100101 d j s
  | .c_a1_c100110 _ d j => Sys2Proof.Machine.execC_a1_c100110 d j s
  | .c_a1_c100111 _ d j => Sys2Proof.Machine.execC_a1_c100111 d j s
  | .c_a1_c101000 _ d j => Sys2Proof.Machine.execC_a1_c101000 d j s
  | .c_a1_c101001 _ d j => Sys2Proof.Machine.execC_a1_c101001 d j s
  | .c_a1_c101010 _ d j => Sys2Proof.Machine.execC_a1_c101010 d j s
  | .c_a1_c101011 _ d j => Sys2Proof.Machine.execC_a1_c101011 d j s
  | .c_a1_c101100 _ d j => Sys2Proof.Machine.execC_a1_c101100 d j s
  | .c_a1_c101101 _ d j => Sys2Proof.Machine.execC_a1_c101101 d j s
  | .c_a1_c101110 _ d j => Sys2Proof.Machine.execC_a1_c101110 d j s
  | .c_a1_c101111 _ d j => Sys2Proof.Machine.execC_a1_c101111 d j s
  | .compM _ d j => Sys2Proof.Machine.execCompM d j s
  | .compNotM _ d j => Sys2Proof.Machine.execCompNotM d j s
  | .compMMinusOne _ d j => Sys2Proof.Machine.execCompMMinusOne d j s
  | .compNegM _ d j => Sys2Proof.Machine.execCompNegM d j s
  | .c_a1_c110100 _ d j => Sys2Proof.Machine.execC_a1_c110100 d j s
  | .c_a1_c110101 _ d j => Sys2Proof.Machine.execC_a1_c110101 d j s
  | .c_a1_c110110 _ d j => Sys2Proof.Machine.execC_a1_c110110 d j s
  | .compMPlusOne _ d j => Sys2Proof.Machine.execCompMPlusOne d j s
  | .c_a1_c111000 _ d j => Sys2Proof.Machine.execC_a1_c111000 d j s
  | .c_a1_c111001 _ d j => Sys2Proof.Machine.execC_a1_c111001 d j s
  | .c_a1_c111010 _ d j => Sys2Proof.Machine.execC_a1_c111010 d j s
  | .c_a1_c111011 _ d j => Sys2Proof.Machine.execC_a1_c111011 d j s
  | .c_a1_c111100 _ d j => Sys2Proof.Machine.execC_a1_c111100 d j s
  | .c_a1_c111101 _ d j => Sys2Proof.Machine.execC_a1_c111101 d j s
  | .c_a1_c111110 _ d j => Sys2Proof.Machine.execC_a1_c111110 d j s
  | .c_a1_c111111 _ d j => Sys2Proof.Machine.execC_a1_c111111 d j s

end Sys2Proof.Machine
end

