-- ==== Sys2Proof/Machine/Step.lean ====
section
/-! DEFINITION. One step: one clock cycle, one instruction (R152, R153). -/

namespace Sys2Proof.Machine

/-- One cycle: fetch and decode, then execute (R153). -/
def step (s : State) : Host.Outcome State Fault Refusal :=
  match nextInstr s with
  | .error f => .fault f
  | .ok i => exec i s

/-- `s` with the instruction word `w` in the program image at PC, where the next step fetches, and no fault recorded,
so that the very next step runs it. It stands for the host's `loadProgram` (R235, R255; DESIGN CHOICE, safe,
notes/assumptions/3.md). The
word's bits above `nbits` are 0. -/
def State.withFetchWord (s : State) (nbits w : Nat) : State :=
  { s with rom := placeWord s.rom s.pc.toNat (BitVec.ofNat 16 (w % 2 ^ nbits)), stopped := none }

end Sys2Proof.Machine
end

