-- ==== Sys2Proof/Machine/Datapath.lean ====
section
/-! DEFINITION. The whole machine's cycle as the spec's datapath gives it, signal by signal from the raw instruction word
(R33, R88, R153), with no use of `Instr`. `step` is the model; this is the second design it is compared with. -/

namespace Sys2Proof.Machine

/-- The CPU's combinational outputs in one cycle: steps 2 to 7 of R153, from the decoded signals, the instruction word
and `inM`. In an A-instruction's cycle `outM` is the free value of R160. -/
def cpu (sig : ControlSignals) (word inM : Word) (s : State) : CpuOut :=
  let r := alu s.d (if sig.a then inM else s.a) sig.alu
  let literal : Addr := word.setWidth 15
  { loadA := !sig.isC || sig.dest.toA
    nextA := if sig.isC then r.out else zext16 literal
    loadD := sig.isC && sig.dest.toD
    outM := if sig.isC then r.out else Config.addressCycleAluOut literal s.a s.d inM
    writeM := sig.isC && sig.dest.toM
    jump := sig.isC && jumpTaken sig.jump r.zr r.ng }

/-- One cycle on a fetched word: decode, the unmapped check on the numeric range, the CPU, the commit (R153). -/
def datapathCycle (word : Word) (s : State) : Host.Outcome State Fault Refusal :=
  let sig := controlSignals word
  if (sig.isC && (sig.a || sig.dest.toM)) = true ∧ 0x6001 ≤ (addressM s).toNat ∧ (addressM s).toNat ≤ 0x7FFF ∧
      s.unmappedPolicy = .fault then
    .fault (.unmappedAccess (addressM s))
  else
    .next (commit s (cpu sig word (memRead s (addressM s)) s))

/-- One cycle of the whole machine: R153 from the fetch on, after the sticky fault of R221. -/
def datapathStep (s : State) : Host.Outcome State Fault Refusal :=
  match s.stopped with
  | some f => .fault f
  | none =>
    if s.rom.length ≤ s.pc.toNat then .fault (.fetchOutsideImage s.pc)
    else datapathCycle (s.rom.getD s.pc.toNat 0#16) s

end Sys2Proof.Machine
end

