-- ==== Sys2Proof/Machine/HostOps.lean ====
section
/-! DEFINITION. The host operations of R234, each between cycles (R237): loadProgram, step, reset, peek, poke, the
keyboard and the renderer's read. `new` is `State.new`. A refused operation changes nothing (R222, R235, R236). -/

namespace Sys2Proof.Machine

/-- Why a host operation is refused (R222): not a fault of a cycle. -/
inductive HostRefusal where
  /-- an image of more than 32768 words (R235) -/
  | imageTooLong (words : Nat)
  /-- an address outside RAM and Screen (R236), or an index outside Screen (R222; DEDUCED, notes/assumptions/12.md) -/
  | outOfRange (addr : Nat)
  deriving DecidableEq, Repr

/-- What the host gets back. -/
inductive HostReply where
  | done
  | word (value : Word)
  | refused (reason : HostRefusal)
  /-- the cycle raised a model fault, which is now recorded (R221) -/
  | faulted (fault : Fault)
  /-- the cycle's instruction has no meaning in the model -/
  | unmodelled (reason : Refusal)
  deriving DecidableEq, Repr

/-- The host operations on a machine (R234). -/
inductive HostOp where
  | loadProgram (words : List Word)
  /-- one cycle, with the key and the reset bit the host sends -/
  | step (input : CycleInput)
  | reset
  | peek (addr : Nat)
  | poke (addr : Nat) (value : Word)
  | keyboard (key : Word)
  | readScreen (index : Nat)
  deriving DecidableEq, Repr

/-- `reset()`: PC becomes 0 and nothing else changes; it executes no instruction (R253; 90_conflicts.md C2, C6). -/
def State.hostReset (s : State) : State := { s with pc := 0#15 }

/-- `loadProgram(words)`: the image replaced from ROM address 0, no register, RAM or Screen word changed; an image of
more than 32768 words refused (R235). -/
def loadProgram (words : List Word) (s : State) : HostReply × State :=
  if imageWellFormed words then (.done, { s with rom := words }) else (.refused (.imageTooLong words.length), s)

/-- `peek(addr)`: the RAM or Screen word; no state changes; any other address refused (R236). -/
def peek (addr : Nat) (s : State) : HostReply × State :=
  if hostAddressWellFormed addr then (.word (memRead s (BitVec.ofNat 15 addr)), s) else (.refused (.outOfRange addr), s)

/-- `poke(addr, v)`: sets the RAM or Screen word; any other address refused (R236, R237). -/
def poke (addr : Nat) (value : Word) (s : State) : HostReply × State :=
  if hostAddressWellFormed addr then (.done, memWrite s true (BitVec.ofNat 15 addr) value)
  else (.refused (.outOfRange addr), s)

/-- The keyboard: sets `key` for the following cycles (R34, R230, R234), those upcoming among them (DEDUCED,
notes/assumptions/12.md). -/
def setKey (key : Word) (s : State) : State :=
  { s with input := { s.input with key := key }, upcoming := s.upcoming.map fun i => { i with key := key } }

/-- The renderer's read of a Screen word: no effect on the core (R35, R68, R234). -/
def readScreen (index : Nat) (s : State) : HostReply × State :=
  if screenIndexWellFormed index then (.word (s.screen.read index), s) else (.refused (.outOfRange index), s)

/-- `step()`: one cycle with the given inputs (R234). The spec does not say what the lines hold after it: here the head of
`upcoming`, or the step's own key and reset where nothing is upcoming, so that an earlier `keyboard` operation's key is
overwritten on the present lines; a step that faults leaves the lines as they were (DESIGN CHOICE, unsafe,
notes/assumptions/14.md). A raised fault commits nothing and is recorded; the record is terminal and no host operation
clears it (R221, D17; notes/assumptions/7.md). -/
def hostStep (input : CycleInput) (s : State) : HostReply × State :=
  match step { s with input := input } with
  | .next t => (.done, t)
  | .fault f => (.faulted f, { s with stopped := some f })
  | .refused r => (.unmodelled r, s)

/-- One host operation (R234). -/
def hostOp (op : HostOp) (s : State) : HostReply × State :=
  match op with
  | .loadProgram words => loadProgram words s
  | .step input => hostStep input s
  | .reset => (.done, s.hostReset)
  | .peek addr => peek addr s
  | .poke addr value => poke addr value s
  | .keyboard key => (.done, setKey key s)
  | .readScreen index => readScreen index s

/-- A run of the machine and its host: the operations one after another. -/
def hostRun (ops : List HostOp) (s : State) : State :=
  match ops with
  | [] => s
  | op :: rest => hostRun rest (hostOp op s).2

end Sys2Proof.Machine
end

