-- ==== Sys2Proof/Safety.lean ====
section
/-! DEFINITION. The terms claims use: the invariant, a safe run, and the effect of an instruction written from the rules
on dest and jump (R183 to R198) in integers and word indices rather than from the machine's own operations. -/

namespace Sys2Proof.Machine

/-- The invariant: RAM and Screen in canonical form within their sizes (R20, R63), and an image that fits the
instruction memory (R71, R235). -/
def State.wf (s : State) : Bool := s.ram.wf 0x4000 && s.screen.wf 0x2000 && imageWellFormed s.rom

/-- A run of `k` cycles with no model fault. -/
def SafeFor (k : Nat) (s : State) : Prop := ∃ t, Host.Core.run Sys2Proof.core k s = .next t

/-- The unmapped data addresses, 0x6001 to 0x7FFF (R58, R63). -/
abbrev Unmapped (addr : Addr) : Prop := 0x6001 ≤ addr.toNat ∧ addr.toNat ≤ 0x7FFF

/-- An instruction that uses M runs: `addressM` is mapped, or the policy is `aliasKeyboard` (R58). -/
abbrev MRuns (s : State) : Prop := s.unmappedPolicy = .aliasKeyboard ∨ ¬ Unmapped (trunc15 s.a)

/-- The jump conditions of R191 to R198, on the signed result: `s(out) < 0`, `out = 0`, `s(out) > 0`. -/
abbrev JumpHolds (j : Jump) (out : Word) : Prop :=
  (j.lt = true ∧ out.toInt < 0) ∨ (j.eq = true ∧ out = 0#16) ∨ (j.gt = true ∧ 0 < out.toInt)

/-- What every instruction leaves alone: the program image, the policy and the fault record (R69, R58, R221). -/
structure CycleFrame (s t : State) : Prop where
  rom : t.rom = s.rom
  unmappedPolicy : t.unmappedPolicy = s.unmappedPolicy
  stopped : t.stopped = s.stopped

/-- A cycle that stores nothing: every RAM and Screen word reads as before. -/
structure StoresNothing (s t : State) : Prop where
  ram : ∀ k, t.ram.read k = s.ram.read k
  screen : ∀ k, t.screen.read k = s.screen.read k

/-- A cycle that stores `out` at the pre-commit A's data address: exactly that RAM or Screen word changes; at the
keyboard, or ignored under `aliasKeyboard`, none does (R55 to R58, R63). -/
structure StoresAt (out : Word) (s t : State) : Prop where
  ram : ∀ k, t.ram.read k =
    if (trunc15 s.a).toNat < 0x4000 ∧ k = (trunc15 s.a).toNat then out else s.ram.read k
  screen : ∀ k, t.screen.read k =
    if 0x4000 ≤ (trunc15 s.a).toNat ∧ (trunc15 s.a).toNat < 0x6000 ∧ k = (trunc15 s.a).toNat - 0x4000 then out
    else s.screen.read k

/-- The whole effect of a C-instruction whose ALU result is `out` (R180, R183 to R198): the stores its dest bits name,
all from pre-commit values, PC by reset over jump over increment, and nothing else. -/
structure ComputeEffect (dest : Dest) (j : Jump) (out : Word) (s t : State) : Prop where
  regA : t.a = if dest.toA then out else s.a
  regD : t.d = if dest.toD then out else s.d
  stores : dest.toM = true → StoresAt out s t
  noStore : dest.toM = false → StoresNothing s t
  pcReset : s.input.reset = true → t.pc = 0
  pcJump : s.input.reset = false → JumpHolds j out → t.pc = trunc15 s.a
  pcNext : s.input.reset = false → ¬ JumpHolds j out → t.pc.toNat = (s.pc.toNat + 1) % 2 ^ 15
  frame : CycleFrame s t

/-- The word `M` names: the RAM word, the Screen word, or `key`, at the pre-commit A; at an unmapped address under
`aliasKeyboard`, `key` (R58, R182). -/
def wordAtM (s : State) : Word :=
  let addr := (trunc15 s.a).toNat
  if addr < 0x4000 then s.ram.read addr
  else if addr < 0x6000 then s.screen.read (addr - 0x4000)
  else s.input.key

/-- The ALU result of a C-instruction's word: x = D, y = A or M by bit 12, controls bits 11 to 6 (R82, R181). -/
def resultOf (w : Word) (s : State) : Word :=
  aluOut s.d (if w.getLsbD 12 then wordAtM s else s.a) (aluControlOf w)

/-- A C-instruction's word uses M: bit 12 or bit 3 is set (R58, R153). -/
abbrev UsesM (w : Word) : Prop := w.getLsbD 12 = true ∨ w.getLsbD 3 = true

/-- What a rule of 40_alu.md says of one comp selection `a` (`usesM`) and `zx nx zy ny f no` (`ac`, bits 12 to 6): the
words it is the meaning of, its completion with the whole effect for the value it computes, and where it faults. -/
def CompRule (mk : BitVec 2 → Dest → Jump → Instr) (ac : BitVec 7) (usesM : Bool) (value : State → Word) : Prop :=
  (∀ w : Word, w.getLsbD 15 = true → w.extractLsb' 6 7 = ac →
    decode w = mk (w.extractLsb' 13 2) ⟨w.getLsbD 5, w.getLsbD 4, w.getLsbD 3⟩
      ⟨w.getLsbD 2, w.getLsbD 1, w.getLsbD 0⟩) ∧
  ∀ (x : BitVec 2) (d : Dest) (j : Jump) (s : State),
    ((usesM = true ∨ d.toM = true → MRuns s) →
      ∃ t, exec (mk x d j) s = .next t ∧ ComputeEffect d j (value s) s t) ∧
    ((usesM = true ∨ d.toM = true) → ¬ MRuns s → exec (mk x d j) s = .fault (.unmappedAccess (trunc15 s.a)))

/-- What a rule on one dest value says (R183 to R190), of every C-instruction's word with those bits 5 to 3: it runs or
faults, and where it runs its ALU result goes to exactly the named destinations. -/
def DestRule (ddd : BitVec 3) (storesA storesD storesM : Bool) : Prop :=
  ∀ (w : Word) (s : State), w.getLsbD 15 = true → w.extractLsb' 3 3 = ddd →
    ((w.getLsbD 12 = true ∨ storesM = true → MRuns s) →
      ∃ t, exec (decode w) s = .next t ∧
        t.a = (if storesA then resultOf w s else s.a) ∧
        t.d = (if storesD then resultOf w s else s.d) ∧
        (storesM = true → StoresAt (resultOf w s) s t) ∧ (storesM = false → StoresNothing s t) ∧ CycleFrame s t) ∧
    ((w.getLsbD 12 = true ∨ storesM = true) → ¬ MRuns s →
      exec (decode w) s = .fault (.unmappedAccess (trunc15 s.a)))

/-- What a rule on one jump value says (R191 to R198), of every C-instruction's word with those bits 2 to 0: PC takes 0
under reset, else the pre-commit A where the condition on the signed result holds, else PC + 1. -/
def JumpRule (jjj : BitVec 3) (condition : Int → Prop) : Prop :=
  ∀ (w : Word) (s : State), w.getLsbD 15 = true → w.extractLsb' 0 3 = jjj → (UsesM w → MRuns s) →
    ∃ t, exec (decode w) s = .next t ∧
      (s.input.reset = true → t.pc = 0) ∧
      (s.input.reset = false → condition (resultOf w s).toInt → t.pc = trunc15 s.a) ∧
      (s.input.reset = false → ¬ condition (resultOf w s).toInt → t.pc = s.pc + 1)

/-- The cycle that starts in `s` stores to data address `addr` (R53, R60): the instruction at PC is a C-instruction with
dest M, and `addr` is the pre-commit A's. -/
def CycleStoresTo (addr : Addr) (s : State) : Prop :=
  ∃ w, s.rom[s.pc.toNat]? = some w ∧ w.getLsbD 15 = true ∧ w.getLsbD 3 = true ∧ addr = trunc15 s.a

end Sys2Proof.Machine
end

