-- ==== Sys2Proof/Certificates/Slice0/Obligations.lean ====
section
/-! DEFINITION. The statements for the provers, each from the numbered rules of spec/. -/

open Sys2Proof Sys2Proof.Machine

/-- At machine initialization every register and every RAM and Screen word is 0: A, D, PC and each RAM and Screen word of a new machine are 0, its program image is what loadProgram supplies, and the reset state is the new machine with the default unmapped policy; of the key nothing is said. -/
def Obligations.PowerOnStateIsZero : Prop :=
  ∀ p : UnmappedPolicy,
    (State.new p).a = 0 ∧ (State.new p).d = 0 ∧ (State.new p).pc = 0 ∧
    (∀ k, (State.new p).ram.read k = 0) ∧ (∀ k, (State.new p).screen.read k = 0) ∧
    (∀ words : List Word, words.length ≤ 32768 → (loadProgram words (State.new p)).2.rom = words) ∧
    State.reset = State.new .fault

/-- The invariant holds at machine initialization: RAM and Screen of a new machine are in canonical form within their sizes and its image fits the instruction memory, for either unmapped policy, and so for the reset state. -/
def Obligations.PowerOnStateMeetsInvariant : Prop :=
  ∀ p : UnmappedPolicy, (State.new p).wf = true ∧ State.reset.wf = true

/-- Words written out from the spec decode to the instructions they stand for: @21, @32767, D=A, 0;JMP, M=D+1, AM=M+1, D=D-M, D;JLE, A=A-1;JMP and two selections without a mnemonic, each as its 16 bits, decode to their instructions. -/
def Obligations.SpecWordsDecode : Prop :=
  decode 0b0000000000010101#16 = .atValue 21#15 ∧
  decode 0b0111111111111111#16 = .atValue 32767#15 ∧
  decode 0b1110110000010000#16 = .compA 3#2 ⟨false, true, false⟩ ⟨false, false, false⟩ ∧
  decode 0b1110101010000111#16 = .compZero 3#2 ⟨false, false, false⟩ ⟨true, true, true⟩ ∧
  decode 0b1110011111001000#16 = .compDPlusOne 3#2 ⟨false, false, true⟩ ⟨false, false, false⟩ ∧
  decode 0b1111110111101000#16 = .compMPlusOne 3#2 ⟨true, false, true⟩ ⟨false, false, false⟩ ∧
  decode 0b1111010011010000#16 = .compDMinusM 3#2 ⟨false, true, false⟩ ⟨false, false, false⟩ ∧
  decode 0b1110001100000110#16 = .compD 3#2 ⟨false, false, false⟩ ⟨true, true, false⟩ ∧
  decode 0b1110110010100111#16 = .compAMinusOne 3#2 ⟨true, false, false⟩ ⟨true, true, true⟩ ∧
  decode 0b1000001010010000#16 = .c_a0_c001010 0#2 ⟨false, true, false⟩ ⟨false, false, false⟩ ∧
  decode 0b1101011111000001#16 = .c_a1_c011111 2#2 ⟨false, false, false⟩ ⟨false, false, true⟩

/-- A step executes the instruction that the word at PC decodes to: Where no fault is recorded and the image holds a word at PC, the step is exec of the decoded word at that same state; the meanings themselves move PC, so the step adds nothing around exec. -/
def Obligations.StepExecutesFetchedInstruction : Prop :=
  ∀ (s : State) (w : Word), s.stopped = none → s.rom[s.pc.toNat]? = some w → step s = exec (decode w) s

/-- A word placed at PC is the instruction the very next step runs: withFetchWord puts the word into the image at PC; the next step is exec of what the decoder reads from it, and registers, memory, the lines and every other image word are as before. The placing is the model's harness (notes/assumptions/3.md). -/
def Obligations.PlacedWordRunsNext : Prop :=
  ∀ (s : State) (w : Nat), w < 2 ^ 16 →
    (∃ i, decodeTableWord 16 w = some i ∧ step (s.withFetchWord 16 w) = exec i (s.withFetchWord 16 w)) ∧
    (s.withFetchWord 16 w).a = s.a ∧ (s.withFetchWord 16 w).d = s.d ∧ (s.withFetchWord 16 w).pc = s.pc ∧
    (s.withFetchWord 16 w).ram = s.ram ∧ (s.withFetchWord 16 w).screen = s.screen ∧
    (s.withFetchWord 16 w).input = s.input ∧
    ∀ k, k < s.rom.length → k ≠ s.pc.toNat → (s.withFetchWord 16 w).rom[k]? = s.rom[k]?

/-- The image occupies ROM addresses 0 to n-1 and a fetch at PC >= n faults: After loadProgram of n <= 32768 words, a cycle at PC = i < n executes words[i], and a cycle at PC >= n raises FetchOutsideImage(PC). -/
def Obligations.FetchInsideAndOutsideTheImage : Prop :=
  ∀ (s : State) (words : List Word), words.length ≤ 32768 → s.stopped = none →
    (∀ w, words[s.pc.toNat]? = some w →
      step (loadProgram words s).2 = exec (decode w) (loadProgram words s).2) ∧
    (words.length ≤ s.pc.toNat → step (loadProgram words s).2 = .fault (.fetchOutsideImage s.pc))

/-- Within a cycle: FetchOutsideImage first, then UnmappedAccess, otherwise a commit in which reset decides PC: Outside the image the step raises FetchOutsideImage; inside, an instruction that uses M at an unmapped address under the fault policy raises UnmappedAccess; every other cycle commits, and with reset = 1 it leaves PC = 0 whatever the jump. -/
def Obligations.FaultOrderAndResetPriority : Prop :=
  ∀ s : State, s.stopped = none →
    (s.rom.length ≤ s.pc.toNat → step s = .fault (.fetchOutsideImage s.pc)) ∧
    (∀ w, s.rom[s.pc.toNat]? = some w →
      (w.getLsbD 15 = true ∧ UsesM w ∧ ¬ MRuns s → step s = .fault (.unmappedAccess (trunc15 s.a))) ∧
      (¬ (w.getLsbD 15 = true ∧ UsesM w ∧ ¬ MRuns s) →
        ∃ t, step s = .next t ∧ (s.input.reset = true → t.pc = 0)))

/-- A cycle never blocks: it commits or ends in one of the two model faults: From every state with no fault recorded the step answers a next state with no fault recorded, or FetchOutsideImage at PC >= n, or UnmappedAccess at an unmapped address under the fault policy; it never refuses an instruction. -/
def Obligations.CycleEndsInCommitOrModelFault : Prop :=
  ∀ s : State, s.stopped = none →
    (∃ t, step s = .next t ∧ t.stopped = none) ∨
    (s.rom.length ≤ s.pc.toNat ∧ step s = .fault (.fetchOutsideImage s.pc)) ∨
    (s.unmappedPolicy = .fault ∧ Unmapped (trunc15 s.a) ∧ step s = .fault (.unmappedAccess (trunc15 s.a)))

/-- A raised fault commits nothing, is recorded, and no host action clears it: A host step whose cycle faults changes nothing but the record; and from a state with a recorded fault, after every sequence of host operations the same fault is still recorded, a step raises it again, and A and D are as they were. That hostStep writes the record, that a step from a recorded fault raises it again (R221 says only that there is no further step) and that the host's other operations still act on a stopped machine are the model's deduction, notes/assumptions/7.md (DEDUCED); that a raised fault commits nothing, is recorded, and is cleared by no host action is R221's. -/
def Obligations.RecordedFaultIsTerminalAndSticky : Prop :=
  (∀ (i : CycleInput) (s : State) (f : Fault), step { s with input := i } = .fault f →
    hostStep i s = (.faulted f, { s with stopped := some f })) ∧
  ∀ (ops : List HostOp) (s : State) (f : Fault), s.stopped = some f →
    (hostRun ops s).stopped = some f ∧ step (hostRun ops s) = .fault f ∧
    (hostRun ops s).a = s.a ∧ (hostRun ops s).d = s.d

/-- The 64 ALU control patterns compute their closed forms: For every x and y each of the 64 patterns zx nx zy ny f no of the table computes the function the table gives it. The functions are the spec's own derivation from the ALU stages (40_alu.md section 2, [derived: from rules R111 to R114]). -/
def Obligations.AluClosedForms : Prop :=
  ∀ x y : Word,
    aluOut x y (aluControl 0b000000#6) = x &&& y ∧
    aluOut x y (aluControl 0b000001#6) = ~~~(x &&& y) ∧
    aluOut x y (aluControl 0b000010#6) = x + y ∧
    aluOut x y (aluControl 0b000011#6) = -x - y - 1#16 ∧
    aluOut x y (aluControl 0b000100#6) = x &&& ~~~y ∧
    aluOut x y (aluControl 0b000101#6) = ~~~x ||| y ∧
    aluOut x y (aluControl 0b000110#6) = x - y - 1#16 ∧
    aluOut x y (aluControl 0b000111#6) = -x + y ∧
    aluOut x y (aluControl 0b001000#6) = 0#16 ∧
    aluOut x y (aluControl 0b001001#6) = 0xFFFF#16 ∧
    aluOut x y (aluControl 0b001010#6) = x ∧
    aluOut x y (aluControl 0b001011#6) = -x - 1#16 ∧
    aluOut x y (aluControl 0b001100#6) = x ∧
    aluOut x y (aluControl 0b001101#6) = ~~~x ∧
    aluOut x y (aluControl 0b001110#6) = x - 1#16 ∧
    aluOut x y (aluControl 0b001111#6) = -x ∧
    aluOut x y (aluControl 0b010000#6) = ~~~x &&& y ∧
    aluOut x y (aluControl 0b010001#6) = x ||| ~~~y ∧
    aluOut x y (aluControl 0b010010#6) = -x + y - 1#16 ∧
    aluOut x y (aluControl 0b010011#6) = x - y ∧
    aluOut x y (aluControl 0b010100#6) = ~~~(x ||| y) ∧
    aluOut x y (aluControl 0b010101#6) = x ||| y ∧
    aluOut x y (aluControl 0b010110#6) = -x - y - 2#16 ∧
    aluOut x y (aluControl 0b010111#6) = x + y + 1#16 ∧
    aluOut x y (aluControl 0b011000#6) = 0#16 ∧
    aluOut x y (aluControl 0b011001#6) = 0xFFFF#16 ∧
    aluOut x y (aluControl 0b011010#6) = -x - 1#16 ∧
    aluOut x y (aluControl 0b011011#6) = x ∧
    aluOut x y (aluControl 0b011100#6) = ~~~x ∧
    aluOut x y (aluControl 0b011101#6) = x ∧
    aluOut x y (aluControl 0b011110#6) = -x - 2#16 ∧
    aluOut x y (aluControl 0b011111#6) = x + 1#16 ∧
    aluOut x y (aluControl 0b100000#6) = 0#16 ∧
    aluOut x y (aluControl 0b100001#6) = 0xFFFF#16 ∧
    aluOut x y (aluControl 0b100010#6) = y ∧
    aluOut x y (aluControl 0b100011#6) = -y - 1#16 ∧
    aluOut x y (aluControl 0b100100#6) = 0#16 ∧
    aluOut x y (aluControl 0b100101#6) = 0xFFFF#16 ∧
    aluOut x y (aluControl 0b100110#6) = -y - 1#16 ∧
    aluOut x y (aluControl 0b100111#6) = y ∧
    aluOut x y (aluControl 0b101000#6) = 0#16 ∧
    aluOut x y (aluControl 0b101001#6) = 0xFFFF#16 ∧
    aluOut x y (aluControl 0b101010#6) = 0#16 ∧
    aluOut x y (aluControl 0b101011#6) = 0xFFFF#16 ∧
    aluOut x y (aluControl 0b101100#6) = 0#16 ∧
    aluOut x y (aluControl 0b101101#6) = 0xFFFF#16 ∧
    aluOut x y (aluControl 0b101110#6) = 0xFFFF#16 ∧
    aluOut x y (aluControl 0b101111#6) = 0#16 ∧
    aluOut x y (aluControl 0b110000#6) = y ∧
    aluOut x y (aluControl 0b110001#6) = ~~~y ∧
    aluOut x y (aluControl 0b110010#6) = y - 1#16 ∧
    aluOut x y (aluControl 0b110011#6) = -y ∧
    aluOut x y (aluControl 0b110100#6) = ~~~y ∧
    aluOut x y (aluControl 0b110101#6) = y ∧
    aluOut x y (aluControl 0b110110#6) = -y - 2#16 ∧
    aluOut x y (aluControl 0b110111#6) = y + 1#16 ∧
    aluOut x y (aluControl 0b111000#6) = 0#16 ∧
    aluOut x y (aluControl 0b111001#6) = 0xFFFF#16 ∧
    aluOut x y (aluControl 0b111010#6) = 0xFFFF#16 ∧
    aluOut x y (aluControl 0b111011#6) = 0#16 ∧
    aluOut x y (aluControl 0b111100#6) = 0xFFFF#16 ∧
    aluOut x y (aluControl 0b111101#6) = 0#16 ∧
    aluOut x y (aluControl 0b111110#6) = 0xFFFE#16 ∧
    aluOut x y (aluControl 0b111111#6) = 1#16

/-- zr is 1 exactly for output 0 and ng is bit 15 of the output: For every input and control pattern zr holds iff out = 0x0000 and ng holds iff bit 15 of out is set, both of the final out. -/
def Obligations.AluFlagsReadTheFinalOutput : Prop :=
  ∀ (x y : Word) (c : AluControl),
    ((alu x y c).zr = true ↔ (alu x y c).out = 0x0000#16) ∧
    ((alu x y c).ng = true ↔ (alu x y c).out.getLsbD 15 = true)

/-- zr and ng are never both 1 and split the results into negative, zero and positive: ng holds exactly for a negative signed result, never together with zr, and neither holds exactly for a positive one. That they are never both 1 is the spec's own derivation (40_alu.md section 1, [derived: from rules R115 and R116]). -/
def Obligations.FlagsPartitionTheSignedResults : Prop :=
  ∀ (x y : Word) (c : AluControl),
    ((alu x y c).ng = true ↔ (alu x y c).out.toInt < 0) ∧
    ((alu x y c).ng = true ↔ 0x8000 ≤ (alu x y c).out.toNat) ∧
    ¬ ((alu x y c).zr = true ∧ (alu x y c).ng = true) ∧
    ((alu x y c).ng = false ∧ (alu x y c).zr = false ↔ 0 < (alu x y c).out.toInt)

/-- ALU arithmetic wraps modulo 2^16: 0x7FFF + 1 = 0x8000, 0xFFFF + 1 = 0, 0 - 1 = 0xFFFF, -0x8000 = 0x8000, the complement is -v - 1, and the sum is the unsigned sum modulo 2^16, each through the ALU pattern that computes it. The five are the spec's own derivation (40_alu.md section 2, "Consequences a model must reproduce"). -/
def Obligations.ArithmeticWraps : Prop :=
  ∀ x y v : Word,
    aluOut 0x7FFF#16 y (aluControl 0b011111#6) = 0x8000#16 ∧
    aluOut 0xFFFF#16 y (aluControl 0b011111#6) = 0x0000#16 ∧
    aluOut 0x0000#16 y (aluControl 0b001110#6) = 0xFFFF#16 ∧
    aluOut 0x8000#16 y (aluControl 0b001111#6) = 0x8000#16 ∧
    aluOut v y (aluControl 0b001101#6) = aluOut v y (aluControl 0b001111#6) - 1#16 ∧
    (aluOut x y (aluControl 0b000010#6)).toNat = (x.toNat + y.toNat) % 2 ^ 16

/-- The A-instruction loads its 15-bit literal, zero-extended, and only advances PC beside that: Every word with bit 15 = 0 is @value with its low 15 bits; it completes in every state, whatever the old A and the unmapped policy; A becomes the literal with bit 15 = 0; D, RAM and Screen are unchanged; PC is PC + 1 mod 2^15, or 0 under reset. -/
def Obligations.AInstructionLoadsZeroExtendedLiteral : Prop :=
  (∀ w : Word, w.getLsbD 15 = false → decode w = .atValue (w.setWidth 15)) ∧
  ∀ (v : Addr) (s : State), ∃ t, exec (.atValue v) s = .next t ∧
    t.a.toNat = v.toNat ∧ t.a.getLsbD 15 = false ∧ t.d = s.d ∧ StoresNothing s t ∧
    (s.input.reset = true → t.pc = 0) ∧
    (s.input.reset = false → t.pc.toNat = (s.pc.toNat + 1) % 2 ^ 15) ∧ CycleFrame s t

/-- The selections 0, 1 and -1 run the ALU stages of their rules and are completed by dest and jump: For each: the words with bit 15 set and its bits 12 to 6 decode to it; with every dest, jump and ignored bits it completes in every state in which M runs where it is used, with the out of its rule's pseudocode stored, jumped on, and nothing else changed, as the rules on dest and jump say; where it uses M at an unmapped address under the fault policy it raises UnmappedAccess; and that out equals the closed form its rule names, which is the spec's own derivation ("which equals", [derived: from rules R111 to R114]) and follows from the stages. -/
def Obligations.ConstantSelections : Prop :=
  CompRule .compZero 0b0101010#7 false (fun _ => 0x0000#16 + 0x0000#16) ∧
  0x0000#16 + 0x0000#16 = 0#16 ∧
  CompRule .compOne 0b0111111#7 false (fun _ => ~~~(0xFFFF#16 + 0xFFFF#16)) ∧
  ~~~(0xFFFF#16 + 0xFFFF#16) = 1#16 ∧
  CompRule .compMinusOne 0b0111010#7 false (fun _ => 0xFFFF#16 + 0x0000#16) ∧
  0xFFFF#16 + 0x0000#16 = 0xFFFF#16

/-- The selections D, A, !D, !A, -D and -A run the ALU stages of their rules and are completed by dest and jump: For each: the words with bit 15 set and its bits 12 to 6 decode to it; with every dest, jump and ignored bits it completes in every state in which M runs where it is used, with the out of its rule's pseudocode stored, jumped on, and nothing else changed, as the rules on dest and jump say; where it uses M at an unmapped address under the fault policy it raises UnmappedAccess; and that out equals the closed form its rule names, which is the spec's own derivation ("which equals", [derived: from rules R111 to R114]) and follows from the stages. -/
def Obligations.RegisterUnarySelections : Prop :=
  CompRule .compD 0b0001100#7 false (fun s => s.d &&& 0xFFFF#16) ∧
  (∀ s : State, s.d &&& 0xFFFF#16 = s.d) ∧
  CompRule .compA 0b0110000#7 false (fun s => 0xFFFF#16 &&& s.a) ∧
  (∀ s : State, 0xFFFF#16 &&& s.a = s.a) ∧
  CompRule .compNotD 0b0001101#7 false (fun s => ~~~(s.d &&& 0xFFFF#16)) ∧
  (∀ s : State, ~~~(s.d &&& 0xFFFF#16) = ~~~s.d) ∧
  CompRule .compNotA 0b0110001#7 false (fun s => ~~~(0xFFFF#16 &&& s.a)) ∧
  (∀ s : State, ~~~(0xFFFF#16 &&& s.a) = ~~~s.a) ∧
  CompRule .compNegD 0b0001111#7 false (fun s => ~~~(s.d + 0xFFFF#16)) ∧
  (∀ s : State, ~~~(s.d + 0xFFFF#16) = -s.d) ∧
  CompRule .compNegA 0b0110011#7 false (fun s => ~~~(0xFFFF#16 + s.a)) ∧
  (∀ s : State, ~~~(0xFFFF#16 + s.a) = -s.a)

/-- The selections D+1, A+1, D-1 and A-1 run the ALU stages of their rules and are completed by dest and jump: For each: the words with bit 15 set and its bits 12 to 6 decode to it; with every dest, jump and ignored bits it completes in every state in which M runs where it is used, with the out of its rule's pseudocode stored, jumped on, and nothing else changed, as the rules on dest and jump say; where it uses M at an unmapped address under the fault policy it raises UnmappedAccess; and that out equals the closed form its rule names, which is the spec's own derivation ("which equals", [derived: from rules R111 to R114]) and follows from the stages. -/
def Obligations.RegisterStepSelections : Prop :=
  CompRule .compDPlusOne 0b0011111#7 false (fun s => ~~~(~~~s.d + 0xFFFF#16)) ∧
  (∀ s : State, ~~~(~~~s.d + 0xFFFF#16) = s.d + 1#16) ∧
  CompRule .compAPlusOne 0b0110111#7 false (fun s => ~~~(0xFFFF#16 + ~~~s.a)) ∧
  (∀ s : State, ~~~(0xFFFF#16 + ~~~s.a) = s.a + 1#16) ∧
  CompRule .compDMinusOne 0b0001110#7 false (fun s => s.d + 0xFFFF#16) ∧
  (∀ s : State, s.d + 0xFFFF#16 = s.d - 1#16) ∧
  CompRule .compAMinusOne 0b0110010#7 false (fun s => 0xFFFF#16 + s.a) ∧
  (∀ s : State, 0xFFFF#16 + s.a = s.a - 1#16)

/-- The selections D+A, D-A, A-D, D&A and D|A run the ALU stages of their rules on D and A: For each: the words with bit 15 set and its bits 12 to 6 decode to it; with every dest, jump and ignored bits it completes in every state in which M runs where it is used, with the out of its rule's pseudocode stored, jumped on, and nothing else changed, as the rules on dest and jump say; where it uses M at an unmapped address under the fault policy it raises UnmappedAccess; and that out equals the closed form its rule names, which is the spec's own derivation ("which equals", [derived: from rules R111 to R114]) and follows from the stages. -/
def Obligations.RegisterBinarySelections : Prop :=
  CompRule .compDPlusA 0b0000010#7 false (fun s => s.d + s.a) ∧
  CompRule .compDMinusA 0b0010011#7 false (fun s => ~~~(~~~s.d + s.a)) ∧
  (∀ s : State, ~~~(~~~s.d + s.a) = s.d - s.a) ∧
  CompRule .compAMinusD 0b0000111#7 false (fun s => ~~~(s.d + ~~~s.a)) ∧
  (∀ s : State, ~~~(s.d + ~~~s.a) = -s.d + s.a) ∧
  CompRule .compDAndA 0b0000000#7 false (fun s => s.d &&& s.a) ∧
  CompRule .compDOrA 0b0010101#7 false (fun s => ~~~(~~~s.d &&& ~~~s.a)) ∧
  (∀ s : State, ~~~(~~~s.d &&& ~~~s.a) = s.d ||| s.a)

/-- The selections M, !M, -M, M+1 and M-1 run the ALU stages of their rules on the memory word: For each: the words with bit 15 set and its bits 12 to 6 decode to it; with every dest, jump and ignored bits it completes in every state in which M runs where it is used, with the out of its rule's pseudocode stored, jumped on, and nothing else changed, as the rules on dest and jump say; where it uses M at an unmapped address under the fault policy it raises UnmappedAccess; and that out equals the closed form its rule names, which is the spec's own derivation ("which equals", [derived: from rules R111 to R114]) and follows from the stages. -/
def Obligations.MemoryUnarySelections : Prop :=
  CompRule .compM 0b1110000#7 true (fun s => 0xFFFF#16 &&& wordAtM s) ∧
  (∀ s : State, 0xFFFF#16 &&& wordAtM s = wordAtM s) ∧
  CompRule .compNotM 0b1110001#7 true (fun s => ~~~(0xFFFF#16 &&& wordAtM s)) ∧
  (∀ s : State, ~~~(0xFFFF#16 &&& wordAtM s) = ~~~wordAtM s) ∧
  CompRule .compNegM 0b1110011#7 true (fun s => ~~~(0xFFFF#16 + wordAtM s)) ∧
  (∀ s : State, ~~~(0xFFFF#16 + wordAtM s) = -wordAtM s) ∧
  CompRule .compMPlusOne 0b1110111#7 true (fun s => ~~~(0xFFFF#16 + ~~~wordAtM s)) ∧
  (∀ s : State, ~~~(0xFFFF#16 + ~~~wordAtM s) = wordAtM s + 1#16) ∧
  CompRule .compMMinusOne 0b1110010#7 true (fun s => 0xFFFF#16 + wordAtM s) ∧
  (∀ s : State, 0xFFFF#16 + wordAtM s = wordAtM s - 1#16)

/-- The selections D+M, D-M, M-D, D&M and D|M run the ALU stages of their rules on D and the memory word: For each: the words with bit 15 set and its bits 12 to 6 decode to it; with every dest, jump and ignored bits it completes in every state in which M runs where it is used, with the out of its rule's pseudocode stored, jumped on, and nothing else changed, as the rules on dest and jump say; where it uses M at an unmapped address under the fault policy it raises UnmappedAccess; and that out equals the closed form its rule names, which is the spec's own derivation ("which equals", [derived: from rules R111 to R114]) and follows from the stages. -/
def Obligations.MemoryBinarySelections : Prop :=
  CompRule .compDPlusM 0b1000010#7 true (fun s => s.d + wordAtM s) ∧
  CompRule .compDMinusM 0b1010011#7 true (fun s => ~~~(~~~s.d + wordAtM s)) ∧
  (∀ s : State, ~~~(~~~s.d + wordAtM s) = s.d - wordAtM s) ∧
  CompRule .compMMinusD 0b1000111#7 true (fun s => ~~~(s.d + ~~~wordAtM s)) ∧
  (∀ s : State, ~~~(s.d + ~~~wordAtM s) = -s.d + wordAtM s) ∧
  CompRule .compDAndM 0b1000000#7 true (fun s => s.d &&& wordAtM s) ∧
  CompRule .compDOrM 0b1010101#7 true (fun s => ~~~(~~~s.d &&& ~~~wordAtM s)) ∧
  (∀ s : State, ~~~(~~~s.d &&& ~~~wordAtM s) = s.d ||| wordAtM s)

/-- The 46 selections without a mnemonic and a = 0 compute the functions of their table: The functions are the spec's own derivation (40_alu.md section 4, [derived: from rule R119]). For each: its words decode to it; with every dest, jump and ignored bits it completes in every state in which M runs where dest names it, with the table's function of D and A as result and nothing else changed; and it faults where dest M meets an unmapped address under the fault policy. -/
def Obligations.UnnamedRegisterSelections : Prop :=
  CompRule .c_a0_c000001 0b0000001#7 false (fun s => ~~~(s.d &&& s.a)) ∧
  CompRule .c_a0_c000011 0b0000011#7 false (fun s => -s.d - s.a - 1#16) ∧
  CompRule .c_a0_c000100 0b0000100#7 false (fun s => s.d &&& ~~~s.a) ∧
  CompRule .c_a0_c000101 0b0000101#7 false (fun s => ~~~s.d ||| s.a) ∧
  CompRule .c_a0_c000110 0b0000110#7 false (fun s => s.d - s.a - 1#16) ∧
  CompRule .c_a0_c001000 0b0001000#7 false (fun _ => 0#16) ∧
  CompRule .c_a0_c001001 0b0001001#7 false (fun _ => 0xFFFF#16) ∧
  CompRule .c_a0_c001010 0b0001010#7 false (fun s => s.d) ∧
  CompRule .c_a0_c001011 0b0001011#7 false (fun s => -s.d - 1#16) ∧
  CompRule .c_a0_c010000 0b0010000#7 false (fun s => ~~~s.d &&& s.a) ∧
  CompRule .c_a0_c010001 0b0010001#7 false (fun s => s.d ||| ~~~s.a) ∧
  CompRule .c_a0_c010010 0b0010010#7 false (fun s => -s.d + s.a - 1#16) ∧
  CompRule .c_a0_c010100 0b0010100#7 false (fun s => ~~~(s.d ||| s.a)) ∧
  CompRule .c_a0_c010110 0b0010110#7 false (fun s => -s.d - s.a - 2#16) ∧
  CompRule .c_a0_c010111 0b0010111#7 false (fun s => s.d + s.a + 1#16) ∧
  CompRule .c_a0_c011000 0b0011000#7 false (fun _ => 0#16) ∧
  CompRule .c_a0_c011001 0b0011001#7 false (fun _ => 0xFFFF#16) ∧
  CompRule .c_a0_c011010 0b0011010#7 false (fun s => -s.d - 1#16) ∧
  CompRule .c_a0_c011011 0b0011011#7 false (fun s => s.d) ∧
  CompRule .c_a0_c011100 0b0011100#7 false (fun s => ~~~s.d) ∧
  CompRule .c_a0_c011101 0b0011101#7 false (fun s => s.d) ∧
  CompRule .c_a0_c011110 0b0011110#7 false (fun s => -s.d - 2#16) ∧
  CompRule .c_a0_c100000 0b0100000#7 false (fun _ => 0#16) ∧
  CompRule .c_a0_c100001 0b0100001#7 false (fun _ => 0xFFFF#16) ∧
  CompRule .c_a0_c100010 0b0100010#7 false (fun s => s.a) ∧
  CompRule .c_a0_c100011 0b0100011#7 false (fun s => -s.a - 1#16) ∧
  CompRule .c_a0_c100100 0b0100100#7 false (fun _ => 0#16) ∧
  CompRule .c_a0_c100101 0b0100101#7 false (fun _ => 0xFFFF#16) ∧
  CompRule .c_a0_c100110 0b0100110#7 false (fun s => -s.a - 1#16) ∧
  CompRule .c_a0_c100111 0b0100111#7 false (fun s => s.a) ∧
  CompRule .c_a0_c101000 0b0101000#7 false (fun _ => 0#16) ∧
  CompRule .c_a0_c101001 0b0101001#7 false (fun _ => 0xFFFF#16) ∧
  CompRule .c_a0_c101011 0b0101011#7 false (fun _ => 0xFFFF#16) ∧
  CompRule .c_a0_c101100 0b0101100#7 false (fun _ => 0#16) ∧
  CompRule .c_a0_c101101 0b0101101#7 false (fun _ => 0xFFFF#16) ∧
  CompRule .c_a0_c101110 0b0101110#7 false (fun _ => 0xFFFF#16) ∧
  CompRule .c_a0_c101111 0b0101111#7 false (fun _ => 0#16) ∧
  CompRule .c_a0_c110100 0b0110100#7 false (fun s => ~~~s.a) ∧
  CompRule .c_a0_c110101 0b0110101#7 false (fun s => s.a) ∧
  CompRule .c_a0_c110110 0b0110110#7 false (fun s => -s.a - 2#16) ∧
  CompRule .c_a0_c111000 0b0111000#7 false (fun _ => 0#16) ∧
  CompRule .c_a0_c111001 0b0111001#7 false (fun _ => 0xFFFF#16) ∧
  CompRule .c_a0_c111011 0b0111011#7 false (fun _ => 0#16) ∧
  CompRule .c_a0_c111100 0b0111100#7 false (fun _ => 0xFFFF#16) ∧
  CompRule .c_a0_c111101 0b0111101#7 false (fun _ => 0#16) ∧
  CompRule .c_a0_c111110 0b0111110#7 false (fun _ => 0xFFFE#16)

/-- The 54 selections without a mnemonic and a = 1 compute the functions of their table: The functions are the spec's own derivation (40_alu.md section 4, [derived: from rule R119]). For each: its words decode to it; with every dest, jump and ignored bits it completes in every state in which M runs, with the table's function of D and the memory word as result and nothing else changed; and it faults at an unmapped address under the fault policy, even where the ALU discards the word. -/
def Obligations.UnnamedMemorySelections : Prop :=
  CompRule .c_a1_c000001 0b1000001#7 true (fun s => ~~~(s.d &&& wordAtM s)) ∧
  CompRule .c_a1_c000011 0b1000011#7 true (fun s => -s.d - wordAtM s - 1#16) ∧
  CompRule .c_a1_c000100 0b1000100#7 true (fun s => s.d &&& ~~~wordAtM s) ∧
  CompRule .c_a1_c000101 0b1000101#7 true (fun s => ~~~s.d ||| wordAtM s) ∧
  CompRule .c_a1_c000110 0b1000110#7 true (fun s => s.d - wordAtM s - 1#16) ∧
  CompRule .c_a1_c001000 0b1001000#7 true (fun _ => 0#16) ∧
  CompRule .c_a1_c001001 0b1001001#7 true (fun _ => 0xFFFF#16) ∧
  CompRule .c_a1_c001010 0b1001010#7 true (fun s => s.d) ∧
  CompRule .c_a1_c001011 0b1001011#7 true (fun s => -s.d - 1#16) ∧
  CompRule .c_a1_c001100 0b1001100#7 true (fun s => s.d) ∧
  CompRule .c_a1_c001101 0b1001101#7 true (fun s => ~~~s.d) ∧
  CompRule .c_a1_c001110 0b1001110#7 true (fun s => s.d - 1#16) ∧
  CompRule .c_a1_c001111 0b1001111#7 true (fun s => -s.d) ∧
  CompRule .c_a1_c010000 0b1010000#7 true (fun s => ~~~s.d &&& wordAtM s) ∧
  CompRule .c_a1_c010001 0b1010001#7 true (fun s => s.d ||| ~~~wordAtM s) ∧
  CompRule .c_a1_c010010 0b1010010#7 true (fun s => -s.d + wordAtM s - 1#16) ∧
  CompRule .c_a1_c010100 0b1010100#7 true (fun s => ~~~(s.d ||| wordAtM s)) ∧
  CompRule .c_a1_c010110 0b1010110#7 true (fun s => -s.d - wordAtM s - 2#16) ∧
  CompRule .c_a1_c010111 0b1010111#7 true (fun s => s.d + wordAtM s + 1#16) ∧
  CompRule .c_a1_c011000 0b1011000#7 true (fun _ => 0#16) ∧
  CompRule .c_a1_c011001 0b1011001#7 true (fun _ => 0xFFFF#16) ∧
  CompRule .c_a1_c011010 0b1011010#7 true (fun s => -s.d - 1#16) ∧
  CompRule .c_a1_c011011 0b1011011#7 true (fun s => s.d) ∧
  CompRule .c_a1_c011100 0b1011100#7 true (fun s => ~~~s.d) ∧
  CompRule .c_a1_c011101 0b1011101#7 true (fun s => s.d) ∧
  CompRule .c_a1_c011110 0b1011110#7 true (fun s => -s.d - 2#16) ∧
  CompRule .c_a1_c011111 0b1011111#7 true (fun s => s.d + 1#16) ∧
  CompRule .c_a1_c100000 0b1100000#7 true (fun _ => 0#16) ∧
  CompRule .c_a1_c100001 0b1100001#7 true (fun _ => 0xFFFF#16) ∧
  CompRule .c_a1_c100010 0b1100010#7 true (fun s => wordAtM s) ∧
  CompRule .c_a1_c100011 0b1100011#7 true (fun s => -wordAtM s - 1#16) ∧
  CompRule .c_a1_c100100 0b1100100#7 true (fun _ => 0#16) ∧
  CompRule .c_a1_c100101 0b1100101#7 true (fun _ => 0xFFFF#16) ∧
  CompRule .c_a1_c100110 0b1100110#7 true (fun s => -wordAtM s - 1#16) ∧
  CompRule .c_a1_c100111 0b1100111#7 true (fun s => wordAtM s) ∧
  CompRule .c_a1_c101000 0b1101000#7 true (fun _ => 0#16) ∧
  CompRule .c_a1_c101001 0b1101001#7 true (fun _ => 0xFFFF#16) ∧
  CompRule .c_a1_c101010 0b1101010#7 true (fun _ => 0#16) ∧
  CompRule .c_a1_c101011 0b1101011#7 true (fun _ => 0xFFFF#16) ∧
  CompRule .c_a1_c101100 0b1101100#7 true (fun _ => 0#16) ∧
  CompRule .c_a1_c101101 0b1101101#7 true (fun _ => 0xFFFF#16) ∧
  CompRule .c_a1_c101110 0b1101110#7 true (fun _ => 0xFFFF#16) ∧
  CompRule .c_a1_c101111 0b1101111#7 true (fun _ => 0#16) ∧
  CompRule .c_a1_c110100 0b1110100#7 true (fun s => ~~~wordAtM s) ∧
  CompRule .c_a1_c110101 0b1110101#7 true (fun s => wordAtM s) ∧
  CompRule .c_a1_c110110 0b1110110#7 true (fun s => -wordAtM s - 2#16) ∧
  CompRule .c_a1_c111000 0b1111000#7 true (fun _ => 0#16) ∧
  CompRule .c_a1_c111001 0b1111001#7 true (fun _ => 0xFFFF#16) ∧
  CompRule .c_a1_c111010 0b1111010#7 true (fun _ => 0xFFFF#16) ∧
  CompRule .c_a1_c111011 0b1111011#7 true (fun _ => 0#16) ∧
  CompRule .c_a1_c111100 0b1111100#7 true (fun _ => 0xFFFF#16) ∧
  CompRule .c_a1_c111101 0b1111101#7 true (fun _ => 0#16) ∧
  CompRule .c_a1_c111110 0b1111110#7 true (fun _ => 0xFFFE#16) ∧
  CompRule .c_a1_c111111 0b1111111#7 true (fun _ => 1#16)

/-- Each of the eight dest values stores the ALU result in exactly the destinations it names: For every C-instruction word and state: dest bits A, D, M each store the result (to the data word at the pre-commit A), the other registers and every other RAM and Screen word keep their values; UnmappedAccess is raised exactly where the word uses M at an unmapped address under the fault policy. -/
def Obligations.DestFieldNamesTheDestinations : Prop :=
  DestRule 0b000#3 false false false ∧
  DestRule 0b001#3 false false true ∧
  DestRule 0b010#3 false true false ∧
  DestRule 0b011#3 false true true ∧
  DestRule 0b100#3 true false false ∧
  DestRule 0b101#3 true false true ∧
  DestRule 0b110#3 true true false ∧
  DestRule 0b111#3 true true true

/-- Each of the eight jump values jumps to the pre-commit A exactly on its signed condition: For every C-instruction word that runs: PC becomes 0 under reset, else A truncated to 15 bits when the signed result meets the condition (never, > 0, = 0, >= 0, < 0, not 0, <= 0, always), else PC + 1. -/
def Obligations.JumpFieldDecidesThePc : Prop :=
  JumpRule 0b000#3 (fun _ => False) ∧
  JumpRule 0b001#3 (fun v => 0 < v) ∧
  JumpRule 0b010#3 (fun v => v = 0) ∧
  JumpRule 0b011#3 (fun v => 0 ≤ v) ∧
  JumpRule 0b100#3 (fun v => v < 0) ∧
  JumpRule 0b101#3 (fun v => v ≠ 0) ∧
  JumpRule 0b110#3 (fun v => v ≤ 0) ∧
  JumpRule 0b111#3 (fun _ => True)

/-- An access to 0x6001 to 0x7FFF faults, or reads key and ignores writes, by unmappedPolicy: Under fault, an instruction raises a fault exactly if it is a C-instruction with a = 1 or dest M at an unmapped addressM, and records that address; under aliasKeyboard no instruction faults, M there reads key, and nothing is stored there. -/
def Obligations.UnmappedAccessUnderEachPolicy : Prop :=
  (∀ (w : Word) (s : State) (f : Fault), s.unmappedPolicy = .fault →
    (exec (decode w) s = .fault f ↔
      w.getLsbD 15 = true ∧ UsesM w ∧ Unmapped (trunc15 s.a) ∧ f = .unmappedAccess (trunc15 s.a))) ∧
  (∀ (x : BitVec 2) (d : Dest) (j : Jump) (s : State), s.unmappedPolicy = .aliasKeyboard → Unmapped (trunc15 s.a) →
    ∃ t, exec (.compM x d j) s = .next t ∧ StoresNothing s t ∧
      t.a = (if d.toA then s.input.key else s.a) ∧ t.d = (if d.toD then s.input.key else s.d)) ∧
  (∀ (w : Word) (s : State), s.unmappedPolicy = .aliasKeyboard →
    ∃ t, exec (decode w) s = .next t ∧ (Unmapped (trunc15 s.a) → StoresNothing s t))

/-- The memory controller reads and writes RAM below 0x4000 and Screen from 0x4000 to 0x5FFF: A read gives the addressed RAM word, or the Screen word at address - 0x4000; a gated write changes exactly that word and a write with load = 0 changes nothing. -/
def Obligations.MemoryControllerFollowsTheAddressMap : Prop :=
  ∀ (s : State) (addr : Addr),
    (addr.toNat < 0x4000 → memRead s addr = s.ram.read addr.toNat) ∧
    (0x4000 ≤ addr.toNat → addr.toNat < 0x6000 → memRead s addr = s.screen.read (addr.toNat - 0x4000)) ∧
    (∀ (v : Word) (k : Nat),
      (memWrite s true addr v).ram.read k = (if addr.toNat < 0x4000 ∧ k = addr.toNat then v else s.ram.read k) ∧
      (memWrite s true addr v).screen.read k =
        (if 0x4000 ≤ addr.toNat ∧ addr.toNat < 0x6000 ∧ k = addr.toNat - 0x4000 then v else s.screen.read k) ∧
      memWrite s false addr v = s)

/-- Address 0x6000 reads the key line and ignores writes: With A at 0x6000, M is the key of the cycle, and every instruction, with dest M or not, completes and stores to no RAM or Screen word. -/
def Obligations.KeyboardWordIsReadOnlyKey : Prop :=
  ∀ (x : BitVec 2) (d : Dest) (j : Jump) (s : State), trunc15 s.a = 0x6000#15 →
    (∃ t, exec (.compM x d j) s = .next t ∧ t.d = (if d.toD then s.input.key else s.d) ∧
      t.a = (if d.toA then s.input.key else s.a)) ∧
    ∀ w : Word, ∃ t, exec (decode w) s = .next t ∧ StoresNothing s t ∧ CycleFrame s t

/-- A stored word is read back by the next cycle, and the storing cycle itself reads the old word: After a C-instruction with dest M at a RAM or Screen address, the controller's read of that address in the next state is the stored result, which was computed from the word as it stood before. -/
def Obligations.WriteIsSeenByTheNextCycleOnly : Prop :=
  ∀ (w : Word) (s t : State), w.getLsbD 15 = true → w.getLsbD 3 = true → (trunc15 s.a).toNat < 0x6000 →
    exec (decode w) s = .next t →
    memRead t (trunc15 s.a) = resultOf w s ∧
    (w.getLsbD 12 = true → resultOf w s = aluOut s.d (memRead s (trunc15 s.a)) (aluControlOf w))

/-- RAM, Screen and keyboard are disjoint storages and reads are idempotent: A cycle with A in RAM changes no Screen word, one with A elsewhere no RAM word, no store changes the key line, and with no store every RAM and Screen address reads the same in the next cycle. -/
def Obligations.StoragesAreDisjoint : Prop :=
  ∀ (w : Word) (s t : State), exec (decode w) s = .next t →
    ((trunc15 s.a).toNat < 0x4000 → ∀ k, t.screen.read k = s.screen.read k) ∧
    (0x4000 ≤ (trunc15 s.a).toNat → ∀ k, t.ram.read k = s.ram.read k) ∧
    (0x6000 ≤ (trunc15 s.a).toNat → ∀ k, t.screen.read k = s.screen.read k) ∧
    (∀ (addr : Addr) (v : Word), (memWrite s true addr v).input = s.input) ∧
    (w.getLsbD 15 = false ∨ w.getLsbD 3 = false → ∀ addr : Addr, addr.toNat < 0x6000 → memRead t addr = memRead s addr)

/-- In a cycle with reset = 1 only the PC update differs: PC becomes 0: The same instruction in the same state with reset = 1 and with reset = 0 faults alike and stores the same A, D, RAM and Screen; with reset = 1 PC is 0 whatever the jump. -/
def Obligations.ResetInputOverridesOnlyThePc : Prop :=
  ∀ (w : Word) (s : State) (k : Word),
    (∀ f, exec (decode w) { s with input := ⟨k, true⟩ } = .fault f ↔
      exec (decode w) { s with input := ⟨k, false⟩ } = .fault f) ∧
    ∀ t u, exec (decode w) { s with input := ⟨k, true⟩ } = .next t →
      exec (decode w) { s with input := ⟨k, false⟩ } = .next u →
      t.pc = 0 ∧ t.a = u.a ∧ t.d = u.d ∧ t.ram = u.ram ∧ t.screen = u.screen ∧ t.rom = u.rom

/-- After a reset the next instruction is the one at ROM address 0: After a cycle with reset = 1, whatever its instruction, and after the host operation reset(), the step executes the word at ROM address 0. That the reset vector is 0 is the spec's own derivation (70_reset_and_hazards.md section 2, [derived: from 41_cpu_cycle.md rule R153]). -/
def Obligations.ResetVectorIsRomAddressZero : Prop :=
  ∀ (w w₀ : Word) (s : State), s.stopped = none → s.rom[0]? = some w₀ →
    (∀ t, s.input.reset = true → exec (decode w) s = .next t → step t = exec (decode w₀) t) ∧
    step (hostOp .reset s).2 = exec (decode w₀) (hostOp .reset s).2

/-- After a cycle the lines are what the environment drives next, else as they were (model's choice): The key and reset of the next cycle are the head of upcoming, which loses it; with nothing upcoming the lines stay. How the environment's inputs are laid out in State is the model's choice, notes/assumptions/1.md. -/
def Obligations.EnvironmentLinesMoveOn : Prop :=
  ∀ (w : Word) (s t : State), exec (decode w) s = .next t →
    t.upcoming = s.upcoming.tail ∧ (∀ i rest, s.upcoming = i :: rest → t.input = i) ∧
    (s.upcoming = [] → t.input = s.input)

/-- After the instruction at 0x7FFF, with no jump and no reset, PC becomes 0x0000: Every instruction that completes at PC = 0x7FFF with reset low and no jump taken leaves PC = 0. -/
def Obligations.PcWrapsAtTheTop : Prop :=
  ∀ (w : Word) (s : State), s.pc = 0x7FFF#15 → s.input.reset = false → (w.getLsbD 15 = true → UsesM w → MRuns s) →
    (w.getLsbD 15 = true → ¬ JumpHolds (jumpOf w) (resultOf w s)) →
    ∃ t, exec (decode w) s = .next t ∧ t.pc = 0x0000#15

/-- A taken jump loads PC with bits 14 to 0 of the pre-commit A: For every C-instruction word whose jump is taken with reset low, PC becomes the unsigned value of the old A modulo 2^15, whatever its dest bits do to A. -/
def Obligations.JumpDropsBit15OfA : Prop :=
  ∀ (w : Word) (s : State), w.getLsbD 15 = true → s.input.reset = false → (UsesM w → MRuns s) →
    JumpHolds (jumpOf w) (resultOf w s) →
    ∃ t, exec (decode w) s = .next t ∧ t.pc.toNat = s.a.toNat % 2 ^ 15

/-- Everything commits at once from pre-commit values: An instruction that loads A and writes memory writes at the old A; one that loads A and jumps jumps to the old A; one that reads M and loads D computes from the old D and the old memory word. -/
def Obligations.CommitIsSimultaneous : Prop :=
  ∀ (w : Word) (s t : State), w.getLsbD 15 = true → exec (decode w) s = .next t →
    (w.getLsbD 5 = true → w.getLsbD 3 = true → StoresAt (resultOf w s) s t) ∧
    (w.getLsbD 5 = true → s.input.reset = false → JumpHolds (jumpOf w) (resultOf w s) → t.pc = trunc15 s.a) ∧
    (w.getLsbD 12 = true → w.getLsbD 4 = true → t.d = aluOut s.d (wordAtM s) (aluControlOf w))

/-- Over all instructions: A, D and each memory word change only where the instruction names them, ROM never: If D changes, the word is a C-instruction with dest D; if A changes, an A-instruction or dest A; if a RAM or Screen word changes, dest M at the pre-commit A; no instruction changes the program image, the policy or the fault record. -/
def Obligations.OnlyNamedDestinationsChange : Prop :=
  ∀ (w : Word) (s t : State), exec (decode w) s = .next t →
    (t.d ≠ s.d → w.getLsbD 15 = true ∧ w.getLsbD 4 = true) ∧
    (t.a ≠ s.a → w.getLsbD 15 = false ∨ w.getLsbD 5 = true) ∧
    (∀ k, t.ram.read k ≠ s.ram.read k → w.getLsbD 15 = true ∧ w.getLsbD 3 = true ∧ k = (trunc15 s.a).toNat) ∧
    (∀ k, t.screen.read k ≠ s.screen.read k →
      w.getLsbD 15 = true ∧ w.getLsbD 3 = true ∧ 0x4000 + k = (trunc15 s.a).toNat) ∧
    t.rom = s.rom ∧ t.unmappedPolicy = s.unmappedPolicy ∧ t.stopped = s.stopped

/-- A C-instruction executes the same for every value of bits 14:13: Two C-instruction words that agree on bits 12 to 0 have the same outcome in every state. -/
def Obligations.IgnoredBitsTakeNoPart : Prop :=
  ∀ (w w' : Word) (s : State), w.getLsbD 15 = true → w'.getLsbD 15 = true →
    w.extractLsb' 0 13 = w'.extractLsb' 0 13 → exec (decode w) s = exec (decode w') s

/-- The key reaches the core only through a read of M outside RAM and Screen: An instruction that does not read M, or reads it in RAM or Screen, faults alike and leaves the same A, D, PC, RAM and Screen for every two keys. -/
def Obligations.KeyIsReadOnlyThroughM : Prop :=
  ∀ (w : Word) (s : State) (k k' : Word) (r : Bool),
    (w.getLsbD 15 = false ∨ w.getLsbD 12 = false ∨ (trunc15 s.a).toNat < 0x6000) →
    (∀ f, exec (decode w) { s with input := ⟨k, r⟩ } = .fault f ↔
      exec (decode w) { s with input := ⟨k', r⟩ } = .fault f) ∧
    ∀ t u, exec (decode w) { s with input := ⟨k, r⟩ } = .next t →
      exec (decode w) { s with input := ⟨k', r⟩ } = .next u →
      t.a = u.a ∧ t.d = u.d ∧ t.pc = u.pc ∧ t.ram = u.ram ∧ t.screen = u.screen

/-- The value outM of an A-instruction cycle reaches no state: Whatever word the CPU drives on outM in that cycle, the next state is the same; the statement holds for every value of the free ALU output. -/
def Obligations.AInstructionAluOutputIsUnobservable : Prop :=
  ∀ (s : State) (v : Addr) (anyOut : Word),
    exec (.atValue v) s = .next (commit s { addressCycle s v with outM := anyOut })

/-- The host operation reset() sets PC to 0 and changes nothing else: It executes no instruction: every register, RAM and Screen word, the image, the lines and the fault record are as before. -/
def Obligations.HostResetSetsOnlyThePc : Prop :=
  ∀ s : State, (hostOp .reset s).1 = .done ∧ (hostOp .reset s).2 = { s with pc := 0 }

/-- loadProgram replaces the image and nothing else, and refuses more than 32768 words: An image of at most 32768 words becomes the ROM from address 0 with every register and memory word unchanged; a longer one is refused and nothing changes. -/
def Obligations.LoadProgramReplacesOnlyTheImage : Prop :=
  ∀ (words : List Word) (s : State),
    (words.length ≤ 32768 → hostOp (.loadProgram words) s = (.done, { s with rom := words })) ∧
    (32768 < words.length → ∃ why, hostOp (.loadProgram words) s = (.refused why, s))

/-- peek and poke reach RAM and Screen words and are refused elsewhere: Below 0x4000 and from 0x4000 to 0x5FFF peek answers the word and changes nothing, poke sets exactly that word; at any other address, the keyboard and the unmapped range among them, both are refused and nothing changes. -/
def Obligations.PeekAndPokeReachOnlyRamAndScreen : Prop :=
  ∀ (addr : Nat) (v : Word) (s : State),
    (addr < 0x4000 → hostOp (.peek addr) s = (.word (s.ram.read addr), s) ∧
      ∃ t, hostOp (.poke addr v) s = (.done, t) ∧ t = { s with ram := t.ram } ∧
        ∀ k, t.ram.read k = if k = addr then v else s.ram.read k) ∧
    (0x4000 ≤ addr → addr < 0x6000 → hostOp (.peek addr) s = (.word (s.screen.read (addr - 0x4000)), s) ∧
      ∃ t, hostOp (.poke addr v) s = (.done, t) ∧ t = { s with screen := t.screen } ∧
        ∀ k, t.screen.read k = if k = addr - 0x4000 then v else s.screen.read k) ∧
    (0x6000 ≤ addr → (∃ why, hostOp (.peek addr) s = (.refused why, s)) ∧
      ∃ why, hostOp (.poke addr v) s = (.refused why, s))

/-- A renderer's read of a Screen word changes nothing: It answers the Screen word and leaves the whole state as it was. -/
def Obligations.RendererReadHasNoEffect : Prop :=
  ∀ (index : Nat) (s : State), (hostOp (.readScreen index) s).2 = s ∧
    (index < 8192 → (hostOp (.readScreen index) s).1 = .word (s.screen.read index))

/-- The host operation step advances exactly one cycle with the key and reset it sends: It runs the instruction at PC once in the state with those inputs: its next state is the machine's, or its fault is recorded with nothing committed. That it is this operation that writes the record is the model's deduction, notes/assumptions/7.md (DEDUCED); what the lines hold in the next state, the inputs it sent where nothing is upcoming, is the model's choice, notes/assumptions/14.md (DESIGN CHOICE). -/
def Obligations.HostStepRunsOneCycleWithItsInputs : Prop :=
  ∀ (i : CycleInput) (s : State) (w : Word), s.stopped = none → s.rom[s.pc.toNat]? = some w →
    ∃ t, step { s with input := i } = exec (decode w) { s with input := i } ∧
      ((hostOp (.step i) s = (.done, t) ∧ exec (decode w) { s with input := i } = .next t) ∨
        ∃ f, hostOp (.step i) s = (.faulted f, t) ∧ exec (decode w) { s with input := i } = .fault f ∧
          t = { s with stopped := some f })

/-- Decoding an encoded instruction gives it back, for every instruction and every operand value: For all 129 constructors with every literal, ignored bits, dest and jump, decode of encode is the instruction itself. That the ignored bits 14:13 are an operand of the instruction is the model's choice, notes/assumptions/10.md (DESIGN CHOICE). -/
def Obligations.DecodeInvertsEncode : Prop :=
  ∀ i : Instr, i.wf = true → decode (encode i) = i

/-- Every 16-bit word is the encoding of the instruction it decodes to: The 65536 words and the instructions correspond one to one: no word is rejected, no two words are one instruction, and the decoder drops no bit. That no word is rejected is R90's; the other two hold of words that differ in bits 14:13 only because each constructor keeps those bits, which is the model's choice, notes/assumptions/10.md (DESIGN CHOICE): the spec's decoder drops them (R85, R88). -/
def Obligations.EncodeInvertsDecode : Prop :=
  ∀ w : Word, encode (decode w) = w

/-- The instruction-level step equals the spec's signal-level cycle of the whole machine: In every state, fetching, decoding into one of 129 instructions and executing its meaning has the same outcome as the cycle of R153 computed from the decoded control signals of the raw word, faults and commit included. That both look at the fault record first and raise a recorded fault again is the model's deduction from R221, notes/assumptions/7.md (DEDUCED). -/
def Obligations.StepEqualsDatapathCycle : Prop :=
  ∀ s : State, step s = datapathStep s

/-- Every step keeps RAM and Screen canonical within their sizes and the image within the instruction memory: From every state that meets the invariant, a step that answers a next state answers one that meets it. -/
def Obligations.StepKeepsCanonicalMemoryAndImage : Prop :=
  ∀ s t : State, s.wf = true → step s = .next t → t.wf = true

/-- Every host operation, from every state, keeps the invariant and the policy, and so does every run of them: From every state, whether a run reaches it or not, each of loadProgram, step, reset, peek, poke, keyboard and the renderer's read keeps RAM and Screen canonical within their sizes and the image within the instruction memory, and leaves unmappedPolicy as it was; so does any sequence of them, and on a new machine any sequence leaves the invariant true and the policy the machine was made with. -/
def Obligations.HostRunsKeepInvariant : Prop :=
  (∀ (op : HostOp) (s : State), (s.wf = true → (hostOp op s).2.wf = true) ∧
    (hostOp op s).2.unmappedPolicy = s.unmappedPolicy) ∧
  (∀ (ops : List HostOp) (s : State), (s.wf = true → (hostRun ops s).wf = true) ∧
    (hostRun ops s).unmappedPolicy = s.unmappedPolicy) ∧
  ∀ (ops : List HostOp) (p : UnmappedPolicy), (hostRun ops (State.new p)).wf = true ∧
    (hostRun ops (State.new p)).unmappedPolicy = p

/-- Over any run of cycles, a RAM or Screen address reads the last word stored there: After k cycles in none of which the instruction stores to the address, the address reads what it read at the start; and if the first cycle stores there and no later one does, it reads that cycle's result. -/
def Obligations.ReadReturnsTheLastWrite : Prop :=
  ∀ (addr : Addr), addr.toNat < 0x6000 →
    (∀ (k : Nat) (s t : State), Host.Core.run Sys2Proof.core k s = .next t →
      (∀ m u, m < k → Host.Core.run Sys2Proof.core m s = .next u → ¬ CycleStoresTo addr u) →
      memRead t addr = memRead s addr) ∧
    (∀ (k : Nat) (s t : State) (w : Word), Host.Core.run Sys2Proof.core (k + 1) s = .next t →
      s.rom[s.pc.toNat]? = some w → CycleStoresTo addr s →
      (∀ m u, 0 < m → m < k + 1 → Host.Core.run Sys2Proof.core m s = .next u → ¬ CycleStoresTo addr u) →
      memRead t addr = resultOf w s)

/-- The host operation keyboard sets the key of the following cycles and nothing else: It sets the key of the present lines and of every upcoming cycle, and leaves the reset bits of both, A, D, PC, RAM, Screen, the image, the policy and the fault record as they were; so after any number of cycles that take their inputs from the lines the keyboard word reads that key (a host step sends a key of its own, notes/assumptions/14.md). That it overwrites the keys of inputs already upcoming is the model's choice, notes/assumptions/12.md (DEDUCED), over the layout of notes/assumptions/1.md (DESIGN CHOICE). -/
def Obligations.KeyboardOperationSetsTheKey : Prop :=
  ∀ (k : Word) (s : State), ∃ t, hostOp (.keyboard k) s = (.done, t) ∧
    t.input.key = k ∧ t.input.reset = s.input.reset ∧
    (∀ i ∈ t.upcoming, i.key = k) ∧
    t.upcoming.map CycleInput.reset = s.upcoming.map CycleInput.reset ∧
    t.a = s.a ∧ t.d = s.d ∧ t.pc = s.pc ∧ t.ram = s.ram ∧ t.screen = s.screen ∧ t.rom = s.rom ∧
    t.unmappedPolicy = s.unmappedPolicy ∧ t.stopped = s.stopped ∧
    ∀ (m : Nat) (u : State), Host.Core.run Sys2Proof.core m t = .next u → memRead u 0x6000#15 = k
end

