-- ==== Sys2Proof/Laws/State.lean ====
section
/-! SUPPORT. One lemma per field of State per update of it: a storage write, the commit, a host operation. -/

namespace Sys2Proof.Machine

variable (s : State) (load : Bool) (addr : Addr) (v : Word) (o : CpuOut) (key : Word)

/-! ### memWrite: only RAM and Screen can change -/

theorem memWrite_eq : memWrite s load addr v =
    { s with ram := (memWrite s load addr v).ram, screen := (memWrite s load addr v).screen } := by
  unfold memWrite
  split
  · split <;> rfl
  · rfl

@[simp] theorem memWrite_a : (memWrite s load addr v).a = s.a := by rw [memWrite_eq]
@[simp] theorem memWrite_d : (memWrite s load addr v).d = s.d := by rw [memWrite_eq]
@[simp] theorem memWrite_pc : (memWrite s load addr v).pc = s.pc := by rw [memWrite_eq]
@[simp] theorem memWrite_rom : (memWrite s load addr v).rom = s.rom := by rw [memWrite_eq]
@[simp] theorem memWrite_input : (memWrite s load addr v).input = s.input := by rw [memWrite_eq]
@[simp] theorem memWrite_upcoming : (memWrite s load addr v).upcoming = s.upcoming := by rw [memWrite_eq]
@[simp] theorem memWrite_unmappedPolicy : (memWrite s load addr v).unmappedPolicy = s.unmappedPolicy := by
  rw [memWrite_eq]
@[simp] theorem memWrite_stopped : (memWrite s load addr v).stopped = s.stopped := by rw [memWrite_eq]
@[simp] theorem memWrite_off : memWrite s false addr v = s := rfl

/-! ### commit -/

@[simp] theorem commit_a : (commit s o).a = registerNext o.loadA o.nextA s.a := rfl
@[simp] theorem commit_d : (commit s o).d = registerNext o.loadD o.outM s.d := rfl
@[simp] theorem commit_pc :
    (commit s o).pc = programCounterNext s.input.reset o.jump true (trunc15 s.a) s.pc := rfl
@[simp] theorem commit_ram : (commit s o).ram = (memWrite s o.writeM (addressM s) o.outM).ram := rfl
@[simp] theorem commit_screen : (commit s o).screen = (memWrite s o.writeM (addressM s) o.outM).screen := rfl
@[simp] theorem commit_rom : (commit s o).rom = s.rom := memWrite_rom ..
@[simp] theorem commit_input : (commit s o).input = nextInput s := rfl
@[simp] theorem commit_upcoming : (commit s o).upcoming = s.upcoming.tail := rfl
@[simp] theorem commit_unmappedPolicy : (commit s o).unmappedPolicy = s.unmappedPolicy := memWrite_unmappedPolicy ..
@[simp] theorem commit_stopped : (commit s o).stopped = s.stopped := memWrite_stopped ..

/-! ### the host's reset and keyboard -/

@[simp] theorem hostReset_a : s.hostReset.a = s.a := rfl
@[simp] theorem hostReset_d : s.hostReset.d = s.d := rfl
@[simp] theorem hostReset_pc : s.hostReset.pc = 0#15 := rfl
@[simp] theorem hostReset_ram : s.hostReset.ram = s.ram := rfl
@[simp] theorem hostReset_screen : s.hostReset.screen = s.screen := rfl
@[simp] theorem hostReset_rom : s.hostReset.rom = s.rom := rfl
@[simp] theorem hostReset_stopped : s.hostReset.stopped = s.stopped := rfl
@[simp] theorem hostReset_unmappedPolicy : s.hostReset.unmappedPolicy = s.unmappedPolicy := rfl
@[simp] theorem hostReset_input : s.hostReset.input = s.input := rfl
@[simp] theorem hostReset_upcoming : s.hostReset.upcoming = s.upcoming := rfl

@[simp] theorem setKey_a : (setKey key s).a = s.a := rfl
@[simp] theorem setKey_d : (setKey key s).d = s.d := rfl
@[simp] theorem setKey_pc : (setKey key s).pc = s.pc := rfl
@[simp] theorem setKey_ram : (setKey key s).ram = s.ram := rfl
@[simp] theorem setKey_screen : (setKey key s).screen = s.screen := rfl
@[simp] theorem setKey_rom : (setKey key s).rom = s.rom := rfl
@[simp] theorem setKey_stopped : (setKey key s).stopped = s.stopped := rfl
@[simp] theorem setKey_unmappedPolicy : (setKey key s).unmappedPolicy = s.unmappedPolicy := rfl
@[simp] theorem setKey_input_key : (setKey key s).input.key = key := rfl
@[simp] theorem setKey_input_reset : (setKey key s).input.reset = s.input.reset := rfl
@[simp] theorem setKey_upcoming : (setKey key s).upcoming = s.upcoming.map fun i => { i with key := key } := rfl

/-! ### the sequential cells -/

@[simp] theorem registerNext_on (x y : Word) : registerNext true x y = x := rfl
@[simp] theorem registerNext_off (x y : Word) : registerNext false x y = y := rfl
@[simp] theorem programCounterNext_reset (load inc : Bool) (x y : Addr) :
    programCounterNext true load inc x y = 0#15 := rfl
@[simp] theorem programCounterNext_load (inc : Bool) (x y : Addr) :
    programCounterNext false true inc x y = x := rfl
@[simp] theorem programCounterNext_inc (x y : Addr) : programCounterNext false false true x y = y + 1#15 := rfl

end Sys2Proof.Machine
end

