-- ==== Sys2Proof/Laws/Alu.lean ====
section
/-! SUPPORT. The flags in signed terms and the jump condition on them (R115, R116, R191 to R198). -/

namespace Sys2Proof.Machine

@[simp] theorem alu_out (x y : Word) (c : AluControl) : (alu x y c).out = aluOut x y c := rfl
@[simp] theorem alu_zr (x y : Word) (c : AluControl) : (alu x y c).zr = zr (aluOut x y c) := rfl
@[simp] theorem alu_ng (x y : Word) (c : AluControl) : (alu x y c).ng = ng (aluOut x y c) := rfl

theorem zr_iff (out : Word) : zr out = true ↔ out = 0#16 := by simp [zr]

theorem ng_iff (out : Word) : ng out = true ↔ out.toInt < 0 := by
  have h := out.isLt
  simp only [ng, BitVec.getLsbD, Nat.testBit_eq_decide_div_mod_eq, decide_eq_true_eq, BitVec.toInt]
  split <;> omega

theorem toInt_pos_iff (out : Word) : 0 < out.toInt ↔ ng out = false ∧ zr out = false := by
  have hz : zr out = false ↔ out.toInt ≠ 0 := by
    rw [← Bool.not_eq_true, zr_iff, ← BitVec.toInt_inj]; rfl
  have hn : ng out = false ↔ ¬ out.toInt < 0 := by rw [← Bool.not_eq_true, ng_iff]
  rw [hz, hn]; omega

/-- The jump line is the signed condition of R191 to R198. -/
theorem jumpTaken_iff (j : Jump) (out : Word) : jumpTaken j (zr out) (ng out) = true ↔ JumpHolds j out := by
  simp only [JumpHolds, ← zr_iff, ← ng_iff, toInt_pos_iff, jumpTaken]
  cases j.lt <;> cases j.eq <;> cases j.gt <;> cases zr out <;> cases ng out <;> simp

/-- Addition of the complement, the form in which the ALU subtracts. -/
theorem not_eq_neg_sub_one (v : Word) : ~~~v = -v - 1#16 := by
  rw [BitVec.neg_eq_not_add, BitVec.add_sub_cancel]

end Sys2Proof.Machine
end

