-- ==== Sys2Proof/Laws/Decode.lean ====
section
/-! SUPPORT. The fields of a C-instruction's word are what it was built from (R82), and a word is built from its fields. -/

namespace Sys2Proof

section
variable (x : BitVec 2) (ac : BitVec 7) (d : Dest) (j : Jump)

/-- Every bit of a C-instruction's word, by the field it lies in. -/
theorem computeWord_getLsbD (i : Nat) : (computeWord x ac d j).getLsbD i =
    if i < 3 then j.bits.getLsbD i
    else if i < 6 then d.bits.getLsbD (i - 3)
    else if i < 13 then ac.getLsbD (i - 6)
    else if i < 15 then x.getLsbD (i - 13)
    else (1#1).getLsbD (i - 15) := by
  change (1#1 ++ x ++ ac ++ d.bits ++ j.bits : BitVec (1 + 2 + 7 + 3 + 3)).getLsbD i = _
  simp only [BitVec.getLsbD_append]
  rw [show i - 3 - 3 = i - 6 by omega, show i - 6 - 7 = i - 13 by omega, show i - 13 - 2 = i - 15 by omega]
  by_cases h1 : i < 3
  · simp [h1]
  by_cases h2 : i < 6
  · simp [h1, h2, show i - 3 < 3 by omega]
  by_cases h3 : i < 13
  · simp [h1, h2, h3, show ¬ i - 3 < 3 by omega, show i - 6 < 7 by omega]
  by_cases h4 : i < 15
  · simp [h1, h2, h3, h4, show ¬ i - 3 < 3 by omega, show ¬ i - 6 < 7 by omega, show i - 13 < 2 by omega]
  · simp [h1, h2, h3, h4, show ¬ i - 3 < 3 by omega, show ¬ i - 6 < 7 by omega, show ¬ i - 13 < 2 by omega]

theorem Dest.bits_getLsbD (i : Nat) : d.bits.getLsbD i =
    if i = 0 then d.toM else if i = 1 then d.toD else if i = 2 then d.toA else false := by
  obtain ⟨a, b, c⟩ := d
  rcases i with _ | _ | _ | i
  · cases a <;> cases b <;> cases c <;> rfl
  · cases a <;> cases b <;> cases c <;> rfl
  · cases a <;> cases b <;> cases c <;> rfl
  · exact BitVec.getLsbD_of_ge _ _ (by omega)

theorem Jump.bits_getLsbD (i : Nat) : j.bits.getLsbD i =
    if i = 0 then j.gt else if i = 1 then j.eq else if i = 2 then j.lt else false := by
  obtain ⟨a, b, c⟩ := j
  rcases i with _ | _ | _ | i
  · cases a <;> cases b <;> cases c <;> rfl
  · cases a <;> cases b <;> cases c <;> rfl
  · cases a <;> cases b <;> cases c <;> rfl
  · exact BitVec.getLsbD_of_ge _ _ (by omega)

theorem computeWord_bit15 : (computeWord x ac d j).getLsbD 15 = true := computeWord_getLsbD x ac d j 15

theorem computeWord_a : (computeWord x ac d j).getLsbD 12 = ac.getLsbD 6 := computeWord_getLsbD x ac d j 12

theorem computeWord_ignored : (computeWord x ac d j).extractLsb' 13 2 = x := by
  apply BitVec.eq_of_getLsbD_eq
  intro i hi
  rw [BitVec.getLsbD_extractLsb', computeWord_getLsbD]
  simp [hi, show ¬ 13 + i < 3 by omega, show ¬ 13 + i < 6 by omega, show 13 + i < 15 by omega]

theorem computeWord_alu : aluControlOf (computeWord x ac d j) =
    ⟨ac.getLsbD 5, ac.getLsbD 4, ac.getLsbD 3, ac.getLsbD 2, ac.getLsbD 1, ac.getLsbD 0⟩ := by
  simp only [aluControlOf, computeWord_getLsbD]
  rfl

theorem computeWord_dest : destOf (computeWord x ac d j) = d := by
  simp only [destOf, computeWord_getLsbD, Dest.bits_getLsbD]
  rfl

theorem computeWord_jump : jumpOf (computeWord x ac d j) = j := by
  simp only [jumpOf, computeWord_getLsbD, Jump.bits_getLsbD]
  rfl

/-- The ControlDecoder on a C-instruction's word (R88). -/
theorem controlSignals_computeWord : controlSignals (computeWord x ac d j) =
    { isC := true, a := ac.getLsbD 6,
      alu := ⟨ac.getLsbD 5, ac.getLsbD 4, ac.getLsbD 3, ac.getLsbD 2, ac.getLsbD 1, ac.getLsbD 0⟩,
      dest := d, jump := j } := by
  simp only [controlSignals, computeWord_bit15, computeWord_a, computeWord_alu, computeWord_dest, computeWord_jump,
    if_true]

/-- The decoder on a C-instruction's word. -/
theorem decode_computeWord : decode (computeWord x ac d j) =
    computeInstr x (ac.getLsbD 6)
      ⟨ac.getLsbD 5, ac.getLsbD 4, ac.getLsbD 3, ac.getLsbD 2, ac.getLsbD 1, ac.getLsbD 0⟩ d j := by
  simp only [decode, computeWord_bit15, computeWord_a, computeWord_alu, computeWord_dest, computeWord_jump,
    computeWord_ignored, if_true]

/-- The bits a table row of a C-instruction fixes (mask 0x9FC0) are bit 15 and the comp selection. -/
theorem computeWord_and_mask : computeWord x ac d j &&& 0x9FC0#16 = computeWord 0#2 ac ⟨false, false, false⟩
    ⟨false, false, false⟩ := by
  apply BitVec.eq_of_getLsbD_eq
  intro i hi
  rw [BitVec.getLsbD_and, computeWord_getLsbD, computeWord_getLsbD, Dest.bits_getLsbD, Jump.bits_getLsbD,
    Dest.bits_getLsbD, Jump.bits_getLsbD]
  interval_cases i <;> simp

end

/-- The A-instruction's word (R81): bit 15 is 0, the literal below it. -/
theorem atValueWord_bit15 (v : Addr) : (encode (.atValue v)).getLsbD 15 = false := by
  change (0#1 ++ v : BitVec (1 + 15)).getLsbD 15 = false
  rw [BitVec.getLsbD_append]; rfl

theorem atValueWord_literal (v : Addr) : (encode (.atValue v)).setWidth 15 = v := by
  apply BitVec.eq_of_getLsbD_eq
  intro i hi
  rw [BitVec.getLsbD_setWidth]
  change (decide (i < 15) && (0#1 ++ v : BitVec (1 + 15)).getLsbD i) = _
  rw [BitVec.getLsbD_append]; simp [hi]

end Sys2Proof
end

