-- ==== Sys2Proof/Laws/Memory.lean ====
section
/-! SUPPORT. The laws of one storage, the address decoder by ranges, the memory controller's reads and writes, and that
every memory operation keeps the canonical form. -/

namespace Sys2Proof.Machine

/-! ### Read after write -/

theorem Memory.read_erase_same (m : Memory) (k : Nat) : (Memory.erase m k).read k = 0#16 := by
  induction m with
  | nil => rfl
  | cons e m ih =>
    obtain ⟨i, w⟩ := e
    by_cases h : i = k <;> simp [Memory.erase, Memory.read, h, ih]

theorem Memory.read_erase_other (m : Memory) {k i : Nat} (h : i ≠ k) :
    (Memory.erase m k).read i = m.read i := by
  induction m with
  | nil => rfl
  | cons e m ih =>
    obtain ⟨l, w⟩ := e
    by_cases hl : l = k
    · have : l ≠ i := fun e => h (e ▸ hl)
      simp [Memory.erase, Memory.read, hl, ih, Ne.symm h]
    · simp [Memory.erase, Memory.read, hl, ih]

theorem Memory.read_place_other (m : Memory) {k i : Nat} (v : Word) (h : i ≠ k) :
    (Memory.place m k v).read i = m.read i := by
  induction m with
  | nil => simp [Memory.place, Memory.read, Ne.symm h]
  | cons e m ih =>
    obtain ⟨l, w⟩ := e
    by_cases hl : k < l <;> simp [Memory.place, Memory.read, hl, ih, Ne.symm h]

theorem Memory.read_place_erase (m : Memory) (k : Nat) (v : Word) :
    (Memory.place (Memory.erase m k) k v).read k = v := by
  induction m with
  | nil => simp [Memory.erase, Memory.place, Memory.read]
  | cons e m ih =>
    obtain ⟨l, w⟩ := e
    by_cases hl : l = k
    · simpa [Memory.erase, hl] using ih
    · by_cases hk : k < l <;> simp [Memory.erase, Memory.place, Memory.read, hl, hk, ih]

/-- A read after a write to the same word gives the value written. -/
theorem Memory.read_write_same (m : Memory) (k : Nat) (v : Word) : (Memory.write m k v).read k = v := by
  unfold Memory.write
  split
  · rename_i h; rw [Memory.read_erase_same, h]
  · exact Memory.read_place_erase m k v

/-- A write leaves every other word alone. -/
theorem Memory.read_write_other (m : Memory) {k i : Nat} (v : Word) (h : i ≠ k) :
    (Memory.write m k v).read i = m.read i := by
  unfold Memory.write
  split
  · exact Memory.read_erase_other m h
  · rw [Memory.read_place_other _ v h, Memory.read_erase_other m h]

theorem Memory.read_write (m : Memory) (k i : Nat) (v : Word) :
    (Memory.write m k v).read i = if i = k then v else m.read i := by
  split
  · rename_i h; rw [h, Memory.read_write_same]
  · rename_i h; exact Memory.read_write_other m v h

/-! ### Canonical form -/

theorem Memory.wfFrom_weaken {lo lo' hi : Nat} {m : Memory} (h : Memory.wfFrom lo hi m = true) (hlo : lo' ≤ lo) :
    Memory.wfFrom lo' hi m = true := by
  cases m with
  | nil => rfl
  | cons e m =>
    simp only [Memory.wfFrom, Bool.and_eq_true, decide_eq_true_eq] at h ⊢
    exact ⟨⟨⟨by omega, h.1.1.2⟩, h.1.2⟩, h.2⟩

theorem Memory.wfFrom_erase {lo hi : Nat} {m : Memory} (k : Nat) (h : Memory.wfFrom lo hi m = true) :
    Memory.wfFrom lo hi (Memory.erase m k) = true := by
  induction m generalizing lo with
  | nil => rfl
  | cons e m ih =>
    obtain ⟨l, w⟩ := e
    simp only [Memory.wfFrom, Bool.and_eq_true, decide_eq_true_eq] at h
    by_cases hl : l = k
    · simp only [Memory.erase, hl, if_true]
      exact Memory.wfFrom_weaken (ih h.2) (by omega)
    · simp only [Memory.erase, hl, if_false, Memory.wfFrom, Bool.and_eq_true, decide_eq_true_eq]
      exact ⟨h.1, ih h.2⟩

theorem Memory.wfFrom_place {lo hi k : Nat} {m : Memory} {v : Word} (h : Memory.wfFrom lo hi m = true)
    (hlo : lo ≤ k) (hhi : k < hi) (hv : v ≠ 0#16) (hk : ∀ e ∈ m, e.1 ≠ k) :
    Memory.wfFrom lo hi (Memory.place m k v) = true := by
  induction m generalizing lo with
  | nil => simp [Memory.place, Memory.wfFrom, hlo, hhi, hv]
  | cons e m ih =>
    obtain ⟨l, w⟩ := e
    simp only [Memory.wfFrom, Bool.and_eq_true, decide_eq_true_eq] at h
    have hne : l ≠ k := hk (l, w) (List.mem_cons_self ..)
    by_cases hl : k < l
    · simp only [Memory.place, hl, if_true, Memory.wfFrom, Bool.and_eq_true, decide_eq_true_eq]
      exact ⟨⟨⟨hlo, hhi⟩, hv⟩, ⟨⟨by omega, h.1.1.2⟩, h.1.2⟩, h.2⟩
    · simp only [Memory.place, hl, if_false, Memory.wfFrom, Bool.and_eq_true, decide_eq_true_eq]
      exact ⟨h.1, ih h.2 (by omega) fun e he => hk e (List.mem_cons_of_mem _ he)⟩

theorem Memory.erase_no_entry (m : Memory) (k : Nat) : ∀ e ∈ Memory.erase m k, e.1 ≠ k := by
  induction m with
  | nil => simp [Memory.erase]
  | cons e m ih =>
    obtain ⟨l, w⟩ := e
    by_cases hl : l = k
    · simpa [Memory.erase, hl] using ih
    · simpa [Memory.erase, hl] using ih

/-- A write inside the storage keeps the canonical form. -/
theorem Memory.write_keeps_wf {size k : Nat} {m : Memory} (v : Word) (h : Memory.wf size m = true) (hk : k < size) :
    Memory.wf size (Memory.write m k v) = true := by
  unfold Memory.write
  split
  · exact Memory.wfFrom_erase k h
  · rename_i hv
    exact Memory.wfFrom_place (Memory.wfFrom_erase k h) (Nat.zero_le _) hk hv (Memory.erase_no_entry m k)

/-! ### The address decoder by ranges (R63) -/

theorem addr_bits (addr : Addr) :
    addr.getLsbD 14 = decide (0x4000 ≤ addr.toNat) ∧
    (addr.getLsbD 14 = true → addr.getLsbD 13 = decide (0x6000 ≤ addr.toNat)) := by
  have hlt := addr.isLt
  constructor
  · simp only [BitVec.getLsbD, Nat.testBit_eq_decide_div_mod_eq]
    congr 1
    simp only [eq_iff_iff]
    omega
  · simp only [BitVec.getLsbD, Nat.testBit_eq_decide_div_mod_eq, decide_eq_true_eq]
    intro h
    congr 1
    simp only [eq_iff_iff]
    omega

/-- What a data address names, by its numeric range (R55 to R58, R63). -/
theorem region_by_range (addr : Addr) :
    region addr =
      if addr.toNat < 0x4000 then .ram addr.toNat
      else if addr.toNat < 0x6000 then .screen (addr.toNat - 0x4000)
      else if addr.toNat = 0x6000 then .keyboard
      else .unmapped := by
  have hlt := addr.isLt
  obtain ⟨h14, h13⟩ := addr_bits addr
  have e14 : (addr.extractLsb' 0 14).toNat = addr.toNat % 2 ^ 14 := by simp [BitVec.extractLsb'_toNat]
  have e13 : (addr.extractLsb' 0 13).toNat = addr.toNat % 2 ^ 13 := by simp [BitVec.extractLsb'_toNat]
  unfold region
  by_cases h1 : addr.toNat < 0x4000
  · have : addr.getLsbD 14 = false := by rw [h14]; simp; omega
    simp only [this, h1, if_true, e14]
    rw [show addr.toNat % 2 ^ 14 = addr.toNat by omega]
  · have h14' : addr.getLsbD 14 = true := by rw [h14]; simp; omega
    specialize h13 h14'
    by_cases h2 : addr.toNat < 0x6000
    · have : addr.getLsbD 13 = false := by rw [h13]; simp; omega
      simp only [h14', this, h1, h2, if_true, if_false, e13]
      rw [show addr.toNat % 2 ^ 13 = addr.toNat - 0x4000 by omega]
    · have h13' : addr.getLsbD 13 = true := by rw [h13]; simp; omega
      simp only [h14', h13', h1, h2, if_false]
      by_cases h3 : addr.toNat = 0x6000
      · have : addr.extractLsb' 0 13 = 0#13 := by
          apply BitVec.eq_of_toNat_eq; rw [e13, h3]; rfl
        simp [this, h3]
      · have : addr.extractLsb' 0 13 ≠ 0#13 := by
          intro h
          have := congrArg BitVec.toNat h
          rw [e13] at this
          simp at this
          omega
        simp [this, h3]

theorem region_unmapped_iff (addr : Addr) : region addr = .unmapped ↔ Unmapped addr := by
  have hlt := addr.isLt
  rw [region_by_range]
  unfold Unmapped
  split
  · simp; omega
  · split
    · simp; omega
    · split
      · simp; omega
      · simp; omega

theorem region_ram_lt {addr : Addr} {k : Nat} (h : region addr = .ram k) : k < 0x4000 := by
  rw [region_by_range] at h
  split at h
  · cases h; assumption
  · split at h
    · cases h
    · split at h <;> cases h

theorem region_screen_lt {addr : Addr} {k : Nat} (h : region addr = .screen k) : k < 0x2000 := by
  rw [region_by_range] at h
  split at h
  · cases h
  · split at h
    · simp only [Region.screen.injEq] at h; omega
    · split at h <;> cases h

/-! ### The memory controller -/

/-- What a gated write leaves in RAM, word by word. -/
theorem memWrite_ram_read (s : State) (addr : Addr) (v : Word) (k : Nat) :
    (memWrite s true addr v).ram.read k =
      if addr.toNat < 0x4000 ∧ k = addr.toNat then v else s.ram.read k := by
  unfold memWrite
  rw [region_by_range]
  by_cases h1 : addr.toNat < 0x4000
  · simp [h1, Memory.read_write]
  · by_cases h2 : addr.toNat < 0x6000
    · simp [h1, h2]
    · by_cases h3 : addr.toNat = 0x6000 <;> simp [h1, h2, h3]

/-- What a gated write leaves in Screen, word by word. -/
theorem memWrite_screen_read (s : State) (addr : Addr) (v : Word) (k : Nat) :
    (memWrite s true addr v).screen.read k =
      if 0x4000 ≤ addr.toNat ∧ addr.toNat < 0x6000 ∧ k = addr.toNat - 0x4000 then v else s.screen.read k := by
  unfold memWrite
  rw [region_by_range]
  by_cases h1 : addr.toNat < 0x4000
  · have : ¬ 0x4000 ≤ addr.toNat := by omega
    simp [h1, this]
  · have h1' : 0x4000 ≤ addr.toNat := by omega
    by_cases h2 : addr.toNat < 0x6000
    · simp [h1, h1', h2, Memory.read_write]
    · by_cases h3 : addr.toNat = 0x6000 <;> simp [h1, h2, h3]

/-- The memory controller's write keeps both storages canonical. -/
theorem memWrite_keeps_wf (s : State) (load : Bool) (addr : Addr) (v : Word) (h : s.wf = true) :
    (memWrite s load addr v).wf = true := by
  unfold memWrite
  split
  · split
    · rename_i hk
      simp only [State.wf, Bool.and_eq_true] at h ⊢
      exact ⟨⟨Memory.write_keeps_wf v h.1.1 (region_ram_lt hk), h.1.2⟩, h.2⟩
    · rename_i hk
      simp only [State.wf, Bool.and_eq_true] at h ⊢
      exact ⟨⟨h.1.1, Memory.write_keeps_wf v h.1.2 (region_screen_lt hk)⟩, h.2⟩
    · exact h
    · exact h
  · exact h

/-- A commit keeps the invariant's storages canonical. -/
theorem commit_keeps_wf (s : State) (o : CpuOut) (h : s.wf = true) : (commit s o).wf = true := by
  have := memWrite_keeps_wf s o.writeM (addressM s) o.outM h
  simpa [State.wf] using this

end Sys2Proof.Machine
end

