-- ==== Sys2Proof/Laws/Exec.lean ====
section
/-! SUPPORT. What the shared executions can do, once for every instruction: the model fault of an access, the whole
effect of a C-instruction's commit, and that each C-instruction's meaning is the execution its comp selection names. -/

namespace Sys2Proof.Machine

/-! ### The model fault of an access (R58) -/

theorem unmappedFault_none_of_unused (s : State) : unmappedFault s false false = none := by simp [unmappedFault]

theorem unmappedFault_none_of_runs {s : State} (h : MRuns s) (a destM : Bool) : unmappedFault s a destM = none := by
  unfold unmappedFault
  rw [if_neg]
  rintro ⟨-, hr, hp⟩
  rcases h with h | h
  · rw [h] at hp; cases hp
  · exact h ((region_unmapped_iff _).mp hr)

theorem unmappedFault_some_iff (s : State) (a destM : Bool) (f : Fault) :
    unmappedFault s a destM = some f ↔
      f = .unmappedAccess (trunc15 s.a) ∧ (a = true ∨ destM = true) ∧ Unmapped (trunc15 s.a) ∧
        s.unmappedPolicy = .fault := by
  unfold unmappedFault
  simp only [← region_unmapped_iff, Bool.or_eq_true, addressM]
  constructor
  · intro h
    split at h
    · rename_i hc; cases h; exact ⟨rfl, hc⟩
    · cases h
  · rintro ⟨rfl, hc⟩
    rw [if_pos hc]

/-! ### The commit of a C-instruction (R183 to R198) -/

theorem commit_frame (s : State) (o : CpuOut) : CycleFrame s (commit s o) where
  rom := commit_rom s o
  unmappedPolicy := commit_unmappedPolicy s o
  stopped := commit_stopped s o

theorem commit_storesNothing (s : State) {o : CpuOut} (h : o.writeM = false) : StoresNothing s (commit s o) := by
  constructor <;> intro k <;> simp [h]

theorem commit_storesAt (s : State) {o : CpuOut} (h : o.writeM = true) : StoresAt o.outM s (commit s o) := by
  constructor
  · intro k; rw [commit_ram, h, memWrite_ram_read]; rfl
  · intro k; rw [commit_screen, h, memWrite_screen_read]; rfl

/-- The commit of a C-instruction's cycle is the whole effect the rules on dest and jump give it. -/
theorem commit_computeEffect (s : State) (x y : Word) (c : AluControl) (d : Dest) (j : Jump) :
    ComputeEffect d j (aluOut x y c) s (commit s (computeCycle (alu x y c) d j)) where
  regA := rfl
  regD := rfl
  stores h := commit_storesAt s (o := computeCycle (alu x y c) d j) h
  noStore h := commit_storesNothing s (o := computeCycle (alu x y c) d j) h
  pcReset h := by simp [h]
  pcJump h hj := by
    have : jumpTaken j (zr (aluOut x y c)) (ng (aluOut x y c)) = true := (jumpTaken_iff _ _).mpr hj
    simp [h, computeCycle, this]
  pcNext h hj := by
    have : jumpTaken j (zr (aluOut x y c)) (ng (aluOut x y c)) = false := by
      rw [← Bool.not_eq_true, jumpTaken_iff]; exact hj
    simp [h, computeCycle, this, BitVec.toNat_add]
  frame := commit_frame ..

/-- A C-instruction that uses M in a state where M runs, or does not use it, completes with that effect. -/
theorem executeCompute_completes (a : Bool) (c : AluControl) (d : Dest) (j : Jump) {s : State}
    (h : a = true ∨ d.toM = true → MRuns s) :
    ∃ t, executeCompute a c d j s = .next t ∧ ComputeEffect d j (aluOut s.d (operandY s a) c) s t := by
  have hf : unmappedFault s a d.toM = none := by
    cases ha : a
    · cases hd : d.toM
      · exact unmappedFault_none_of_unused s
      · exact unmappedFault_none_of_runs (h (.inr hd)) ..
    · exact unmappedFault_none_of_runs (h (.inl ha)) ..
  exact ⟨_, by rw [executeCompute, hf], commit_computeEffect ..⟩

/-- Everything a C-instruction's cycle can do. -/
theorem executeCompute_cases (a : Bool) (c : AluControl) (d : Dest) (j : Jump) (s : State) :
    (executeCompute a c d j s = .fault (.unmappedAccess (trunc15 s.a)) ∧ (a = true ∨ d.toM = true) ∧
        Unmapped (trunc15 s.a) ∧ s.unmappedPolicy = .fault) ∨
    (executeCompute a c d j s = .next (commit s (computeCycle (alu s.d (operandY s a) c) d j)) ∧
        ¬ ((a = true ∨ d.toM = true) ∧ Unmapped (trunc15 s.a) ∧ s.unmappedPolicy = .fault)) := by
  unfold executeCompute
  cases h : unmappedFault s a d.toM with
  | some f =>
    obtain ⟨rfl, hc⟩ := (unmappedFault_some_iff s a d.toM f).mp h
    exact .inl ⟨rfl, hc⟩
  | none =>
    refine .inr ⟨rfl, fun hc => ?_⟩
    have := (unmappedFault_some_iff s a d.toM _).mpr ⟨rfl, hc⟩
    rw [h] at this; cases this

/-- `MemRead` at the pre-commit A is the word M names, where M runs (R182). -/
theorem memRead_eq_wordAtM {s : State} (h : MRuns s) : memRead s (trunc15 s.a) = wordAtM s := by
  unfold memRead wordAtM
  rw [region_by_range]
  by_cases h1 : (trunc15 s.a).toNat < 0x4000
  · simp [h1]
  by_cases h2 : (trunc15 s.a).toNat < 0x6000
  · simp [h1, h2]
  by_cases h3 : (trunc15 s.a).toNat = 0x6000
  · simp [h3]
  · have hlt := (trunc15 s.a).isLt
    rcases h with h | h
    · simp [h1, h2, h3, h]
    · exact absurd ⟨by omega, by omega⟩ h

theorem not_mRuns_iff {s : State} : ¬ MRuns s ↔ Unmapped (trunc15 s.a) ∧ s.unmappedPolicy = .fault := by
  unfold MRuns
  cases hp : s.unmappedPolicy <;> simp

/-! ### Each meaning is the execution its comp selection names -/

theorem exec_computeInstr (x : BitVec 2) (a : Bool) (c : AluControl) (d : Dest) (j : Jump) (s : State) :
    exec (computeInstr x a c d j) s = executeCompute a c d j s := by
  obtain ⟨zx, nx, zy, ny, f, no⟩ := c
  cases a <;> cases zx <;> cases nx <;> cases zy <;> cases ny <;> cases f <;> cases no <;> rfl

theorem exec_atValue (v : Addr) (s : State) : exec (.atValue v) s = .next (commit s (addressCycle s v)) := rfl

/-- What executing a decoded word does: one of the two formats, by bit 15 alone (R80). -/
theorem exec_decode (w : Word) (s : State) :
    exec (decode w) s =
      if w.getLsbD 15 then executeCompute (w.getLsbD 12) (aluControlOf w) (destOf w) (jumpOf w) s
      else executeAddress (w.setWidth 15) s := by
  unfold decode
  split
  · exact exec_computeInstr ..
  · rfl

/-- Everything the execution of a decoded word can do: an A-instruction commits its literal; a C-instruction faults
where it uses M and M does not run, and otherwise commits with the whole effect of its result. -/
theorem exec_word_cases (w : Word) (s : State) :
    (w.getLsbD 15 = false ∧ exec (decode w) s = .next (commit s (addressCycle s (w.setWidth 15)))) ∨
    (w.getLsbD 15 = true ∧ UsesM w ∧ ¬ MRuns s ∧ exec (decode w) s = .fault (.unmappedAccess (trunc15 s.a))) ∨
    (w.getLsbD 15 = true ∧ (UsesM w → MRuns s) ∧ ∃ o, exec (decode w) s = .next (commit s o) ∧
      o = computeCycle (alu s.d (operandY s (w.getLsbD 12)) (aluControlOf w)) (destOf w) (jumpOf w) ∧
      ComputeEffect (destOf w) (jumpOf w) (resultOf w s) s (commit s o)) := by
  rw [exec_decode]
  cases h15 : w.getLsbD 15
  · exact .inl ⟨rfl, rfl⟩
  · right
    rcases executeCompute_cases (w.getLsbD 12) (aluControlOf w) (destOf w) (jumpOf w) s with ⟨e, hu, hn⟩ | ⟨e, hn⟩
    · exact .inl ⟨rfl, hu, not_mRuns_iff.mpr hn, e⟩
    · have hr : UsesM w → MRuns s := fun hu => Decidable.not_not.mp fun h => hn ⟨hu, not_mRuns_iff.mp h⟩
      have hy : operandY s (w.getLsbD 12) = if w.getLsbD 12 then wordAtM s else s.a := by
        cases ha : w.getLsbD 12
        · rfl
        · exact memRead_eq_wordAtM (hr (.inl ha))
      refine .inr ⟨rfl, hr, _, e, rfl, ?_⟩
      unfold resultOf
      rw [← hy]
      exact commit_computeEffect ..

end Sys2Proof.Machine
end

