-- ==== Sys2Proof/Laws/Step.lean ====
section
/-! SUPPORT. What a step can do, once: the recorded fault, the fetch fault, or the execution of the decoded word; and the
fetch of a word that was put into the program image. -/

namespace Sys2Proof.Machine

/-- Everything a step can do. -/
theorem step_cases (s : State) :
    (∃ f, s.stopped = some f ∧ step s = .fault f) ∨
    (s.stopped = none ∧ s.rom.length ≤ s.pc.toNat ∧ step s = .fault (.fetchOutsideImage s.pc)) ∨
    (∃ w, s.stopped = none ∧ s.rom[s.pc.toNat]? = some w ∧ step s = exec (decode w) s) := by
  unfold step nextInstr fetch
  cases hs : s.stopped with
  | some f => exact .inl ⟨f, rfl, rfl⟩
  | none =>
    cases hw : s.rom[s.pc.toNat]? with
    | none => exact .inr (.inl ⟨rfl, List.getElem?_eq_none_iff.mp hw, rfl⟩)
    | some w => exact .inr (.inr ⟨w, rfl, rfl, rfl⟩)

/-- A next state is a commit: of an A-instruction's or a C-instruction's cycle. -/
theorem exec_decode_next {w : Word} {s t : State} (h : exec (decode w) s = .next t) : ∃ o, t = commit s o := by
  rw [exec_decode] at h
  split at h
  · rcases executeCompute_cases (w.getLsbD 12) (aluControlOf w) (destOf w) (jumpOf w) s with ⟨e, -⟩ | ⟨e, -⟩
    · rw [e] at h; cases h
    · rw [e] at h; cases h; exact ⟨_, rfl⟩
  · cases h; exact ⟨_, rfl⟩

theorem step_next {s t : State} (h : step s = .next t) : s.stopped = none ∧ ∃ o, t = commit s o := by
  rcases step_cases s with ⟨f, -, e⟩ | ⟨-, -, e⟩ | ⟨w, hs, -, e⟩
  · rw [e] at h; cases h
  · rw [e] at h; cases h
  · rw [e] at h; exact ⟨hs, exec_decode_next h⟩

/-- A run of one cycle more, from its first cycle: it ends in a next state exactly if that cycle does and the rest does. -/
theorem run_succ_next_iff (M : Host.Core) (k : Nat) (s t : M.State) :
    M.run (k + 1) s = .next t ↔ ∃ s', M.step s = .next s' ∧ M.run k s' = .next t := by
  rw [Host.Core.run]
  cases h : M.step s with
  | next s' => exact ⟨fun e => ⟨s', rfl, e⟩, fun ⟨u, hu, e⟩ => by cases hu; exact e⟩
  | fault f => exact ⟨fun e => (by cases e), fun ⟨u, hu, _⟩ => (by cases hu)⟩
  | refused r => exact ⟨fun e => (by cases e), fun ⟨u, hu, _⟩ => (by cases hu)⟩

/-- What every step keeps, a run of any number of cycles keeps. -/
theorem run_keeps {P : State → Prop} (hstep : ∀ s t, P s → step s = .next t → P t) (k : Nat) {s t : State} (hs : P s)
    (h : Host.Core.run Sys2Proof.core k s = .next t) : P t := by
  induction k generalizing s with
  | zero => cases h; exact hs
  | succ k ih =>
    obtain ⟨s', h₁, h₂⟩ := (run_succ_next_iff Sys2Proof.core k s t).mp h
    exact ih (hstep s s' hs h₁) h₂

theorem placeWord_get (rom : List Word) (k : Nat) (w : Word) : (placeWord rom k w)[k]? = some w := by
  induction k generalizing rom with
  | zero => cases rom <;> rfl
  | succ k ih => cases rom <;> simp [placeWord, ih]

theorem placeWord_length (rom : List Word) (k : Nat) (w : Word) :
    (placeWord rom k w).length = max rom.length (k + 1) := by
  induction k generalizing rom with
  | zero => cases rom <;> simp [placeWord]
  | succ k ih => cases rom <;> simp [placeWord, ih]

theorem placeWord_keeps (rom : List Word) {k i : Nat} (w : Word) (hi : i < rom.length) (h : i ≠ k) :
    (placeWord rom k w)[i]? = rom[i]? := by
  induction k generalizing rom i with
  | zero =>
    cases rom with
    | nil => simp at hi
    | cons v rom => cases i with
      | zero => exact absurd rfl h
      | succ i => rfl
  | succ k ih =>
    cases rom with
    | nil => simp at hi
    | cons v rom => cases i with
      | zero => rfl
      | succ i => simpa [placeWord] using ih rom (by simpa using hi) (by omega)

end Sys2Proof.Machine
end

