-- ==== Sys2Proof/Laws/HostOps.lean ====
section
/-! SUPPORT. What a host operation can do, once: the fields each leaves alone, and the refusals. -/

namespace Sys2Proof.Machine

theorem loadProgram_cases (words : List Word) (s : State) :
    (words.length ≤ 0x8000 ∧ loadProgram words s = (.done, { s with rom := words })) ∨
    (0x8000 < words.length ∧ loadProgram words s = (.refused (.imageTooLong words.length), s)) := by
  unfold loadProgram imageWellFormed
  by_cases h : words.length ≤ 0x8000
  · exact .inl ⟨h, by rw [if_pos (by simpa using h)]⟩
  · exact .inr ⟨by omega, by rw [if_neg (by simpa using h)]⟩

theorem poke_cases (addr : Nat) (v : Word) (s : State) :
    (addr < 0x6000 ∧ poke addr v s = (.done, memWrite s true (BitVec.ofNat 15 addr) v)) ∨
    (0x6000 ≤ addr ∧ poke addr v s = (.refused (.outOfRange addr), s)) := by
  unfold poke hostAddressWellFormed
  by_cases h : addr < 0x6000
  · exact .inl ⟨h, by rw [if_pos (by simpa using h)]⟩
  · exact .inr ⟨by omega, by rw [if_neg (by simpa using h)]⟩

theorem peek_state (addr : Nat) (s : State) : (peek addr s).2 = s := by unfold peek; split <;> rfl

theorem readScreen_state (index : Nat) (s : State) : (readScreen index s).2 = s := by
  unfold readScreen; split <;> rfl

/-- A host's cycle commits, or records a fault and changes nothing else, or changes nothing. -/
theorem hostStep_cases (i : CycleInput) (s : State) :
    (∃ t, step { s with input := i } = .next t ∧ hostStep i s = (.done, t)) ∨
    (∃ f, step { s with input := i } = .fault f ∧ hostStep i s = (.faulted f, { s with stopped := some f })) ∨
    (∃ r, hostStep i s = (.unmodelled r, s)) := by
  unfold hostStep
  cases h : step { s with input := i } with
  | next t => exact .inl ⟨t, rfl, rfl⟩
  | fault f => exact .inr (.inl ⟨f, rfl, rfl⟩)
  | refused r => exact .inr (.inr ⟨r, rfl⟩)

/-- The key of the next cycle, where the present lines and every upcoming input have that key. -/
theorem nextInput_key {s : State} {k : Word} (h : s.input.key = k) (hu : ∀ i ∈ s.upcoming, i.key = k) :
    (nextInput s).key = k := by
  unfold nextInput
  cases hs : s.upcoming with
  | nil => exact h
  | cons i rest => exact hu i (by simp [hs])

theorem setKey_upcoming_key (key : Word) (s : State) : ∀ i ∈ (setKey key s).upcoming, i.key = key := by simp

/-- What every host operation keeps, a run of them keeps. -/
theorem hostRun_keeps {P : State → Prop} (hop : ∀ op s, P s → P (hostOp op s).2) (ops : List HostOp) {s : State}
    (hs : P s) : P (hostRun ops s) := by
  induction ops generalizing s with
  | nil => exact hs
  | cons op ops ih => exact ih (hop op s hs)

end Sys2Proof.Machine
end

