-- ==== Sys2Proof/Laws/PerInstr.lean ====
section
/-! SUPPORT. Per instruction: its encoding carries the bits that its row of spec/opcode_table.json fixes, whatever its
operands (R91). The rows are the table's own match and mask values. -/

namespace Sys2Proof.Laws.EncodingFitsRow

/-- The `match` of the instruction's row of spec/opcode_table.json. -/
def rowMatch : Instr → Word
  | .atValue _ => 0x0000#16
  | .compDAndA .. => 0x8000#16
  | .c_a0_c000001 .. => 0x8040#16
  | .compDPlusA .. => 0x8080#16
  | .c_a0_c000011 .. => 0x80C0#16
  | .c_a0_c000100 .. => 0x8100#16
  | .c_a0_c000101 .. => 0x8140#16
  | .c_a0_c000110 .. => 0x8180#16
  | .compAMinusD .. => 0x81C0#16
  | .c_a0_c001000 .. => 0x8200#16
  | .c_a0_c001001 .. => 0x8240#16
  | .c_a0_c001010 .. => 0x8280#16
  | .c_a0_c001011 .. => 0x82C0#16
  | .compD .. => 0x8300#16
  | .compNotD .. => 0x8340#16
  | .compDMinusOne .. => 0x8380#16
  | .compNegD .. => 0x83C0#16
  | .c_a0_c010000 .. => 0x8400#16
  | .c_a0_c010001 .. => 0x8440#16
  | .c_a0_c010010 .. => 0x8480#16
  | .compDMinusA .. => 0x84C0#16
  | .c_a0_c010100 .. => 0x8500#16
  | .compDOrA .. => 0x8540#16
  | .c_a0_c010110 .. => 0x8580#16
  | .c_a0_c010111 .. => 0x85C0#16
  | .c_a0_c011000 .. => 0x8600#16
  | .c_a0_c011001 .. => 0x8640#16
  | .c_a0_c011010 .. => 0x8680#16
  | .c_a0_c011011 .. => 0x86C0#16
  | .c_a0_c011100 .. => 0x8700#16
  | .c_a0_c011101 .. => 0x8740#16
  | .c_a0_c011110 .. => 0x8780#16
  | .compDPlusOne .. => 0x87C0#16
  | .c_a0_c100000 .. => 0x8800#16
  | .c_a0_c100001 .. => 0x8840#16
  | .c_a0_c100010 .. => 0x8880#16
  | .c_a0_c100011 .. => 0x88C0#16
  | .c_a0_c100100 .. => 0x8900#16
  | .c_a0_c100101 .. => 0x8940#16
  | .c_a0_c100110 .. => 0x8980#16
  | .c_a0_c100111 .. => 0x89C0#16
  | .c_a0_c101000 .. => 0x8A00#16
  | .c_a0_c101001 .. => 0x8A40#16
  | .compZero .. => 0x8A80#16
  | .c_a0_c101011 .. => 0x8AC0#16
  | .c_a0_c101100 .. => 0x8B00#16
  | .c_a0_c101101 .. => 0x8B40#16
  | .c_a0_c101110 .. => 0x8B80#16
  | .c_a0_c101111 .. => 0x8BC0#16
  | .compA .. => 0x8C00#16
  | .compNotA .. => 0x8C40#16
  | .compAMinusOne .. => 0x8C80#16
  | .compNegA .. => 0x8CC0#16
  | .c_a0_c110100 .. => 0x8D00#16
  | .c_a0_c110101 .. => 0x8D40#16
  | .c_a0_c110110 .. => 0x8D80#16
  | .compAPlusOne .. => 0x8DC0#16
  | .c_a0_c111000 .. => 0x8E00#16
  | .c_a0_c111001 .. => 0x8E40#16
  | .compMinusOne .. => 0x8E80#16
  | .c_a0_c111011 .. => 0x8EC0#16
  | .c_a0_c111100 .. => 0x8F00#16
  | .c_a0_c111101 .. => 0x8F40#16
  | .c_a0_c111110 .. => 0x8F80#16
  | .compOne .. => 0x8FC0#16
  | .compDAndM .. => 0x9000#16
  | .c_a1_c000001 .. => 0x9040#16
  | .compDPlusM .. => 0x9080#16
  | .c_a1_c000011 .. => 0x90C0#16
  | .c_a1_c000100 .. => 0x9100#16
  | .c_a1_c000101 .. => 0x9140#16
  | .c_a1_c000110 .. => 0x9180#16
  | .compMMinusD .. => 0x91C0#16
  | .c_a1_c001000 .. => 0x9200#16
  | .c_a1_c001001 .. => 0x9240#16
  | .c_a1_c001010 .. => 0x9280#16
  | .c_a1_c001011 .. => 0x92C0#16
  | .c_a1_c001100 .. => 0x9300#16
  | .c_a1_c001101 .. => 0x9340#16
  | .c_a1_c001110 .. => 0x9380#16
  | .c_a1_c001111 .. => 0x93C0#16
  | .c_a1_c010000 .. => 0x9400#16
  | .c_a1_c010001 .. => 0x9440#16
  | .c_a1_c010010 .. => 0x9480#16
  | .compDMinusM .. => 0x94C0#16
  | .c_a1_c010100 .. => 0x9500#16
  | .compDOrM .. => 0x9540#16
  | .c_a1_c010110 .. => 0x9580#16
  | .c_a1_c010111 .. => 0x95C0#16
  | .c_a1_c011000 .. => 0x9600#16
  | .c_a1_c011001 .. => 0x9640#16
  | .c_a1_c011010 .. => 0x9680#16
  | .c_a1_c011011 .. => 0x96C0#16
  | .c_a1_c011100 .. => 0x9700#16
  | .c_a1_c011101 .. => 0x9740#16
  | .c_a1_c011110 .. => 0x9780#16
  | .c_a1_c011111 .. => 0x97C0#16
  | .c_a1_c100000 .. => 0x9800#16
  | .c_a1_c100001 .. => 0x9840#16
  | .c_a1_c100010 .. => 0x9880#16
  | .c_a1_c100011 .. => 0x98C0#16
  | .c_a1_c100100 .. => 0x9900#16
  | .c_a1_c100101 .. => 0x9940#16
  | .c_a1_c100110 .. => 0x9980#16
  | .c_a1_c100111 .. => 0x99C0#16
  | .c_a1_c101000 .. => 0x9A00#16
  | .c_a1_c101001 .. => 0x9A40#16
  | .c_a1_c101010 .. => 0x9A80#16
  | .c_a1_c101011 .. => 0x9AC0#16
  | .c_a1_c101100 .. => 0x9B00#16
  | .c_a1_c101101 .. => 0x9B40#16
  | .c_a1_c101110 .. => 0x9B80#16
  | .c_a1_c101111 .. => 0x9BC0#16
  | .compM .. => 0x9C00#16
  | .compNotM .. => 0x9C40#16
  | .compMMinusOne .. => 0x9C80#16
  | .compNegM .. => 0x9CC0#16
  | .c_a1_c110100 .. => 0x9D00#16
  | .c_a1_c110101 .. => 0x9D40#16
  | .c_a1_c110110 .. => 0x9D80#16
  | .compMPlusOne .. => 0x9DC0#16
  | .c_a1_c111000 .. => 0x9E00#16
  | .c_a1_c111001 .. => 0x9E40#16
  | .c_a1_c111010 .. => 0x9E80#16
  | .c_a1_c111011 .. => 0x9EC0#16
  | .c_a1_c111100 .. => 0x9F00#16
  | .c_a1_c111101 .. => 0x9F40#16
  | .c_a1_c111110 .. => 0x9F80#16
  | .c_a1_c111111 .. => 0x9FC0#16

/-- The `mask` of the instruction's row of spec/opcode_table.json. -/
def rowMask : Instr → Word
  | .atValue _ => 0x8000#16
  | _ => 0x9FC0#16

def Statement (i : Instr) : Prop := encode i &&& rowMask i = rowMatch i

theorem atValue (v : Addr) : Statement (.atValue v) := by
  apply BitVec.eq_of_getLsbD_eq
  intro i hi
  rw [BitVec.getLsbD_and]
  change ((encode (.atValue v)).getLsbD i && (0x8000#16).getLsbD i) = (0x0000#16).getLsbD i
  by_cases h : i = 15
  · subst h; rw [atValueWord_bit15]; rfl
  · have : (0x8000#16).getLsbD i = false := by interval_cases i <;> first | rfl | exact absurd rfl h
    rw [this, Bool.and_false]; simp

section
variable (x : BitVec 2) (d : Dest) (j : Jump)

theorem compDAndA : Statement (.compDAndA x d j) := (computeWord_and_mask x _ d j).trans rfl
theorem c_a0_c000001 : Statement (.c_a0_c000001 x d j) := (computeWord_and_mask x _ d j).trans rfl
theorem compDPlusA : Statement (.compDPlusA x d j) := (computeWord_and_mask x _ d j).trans rfl
theorem c_a0_c000011 : Statement (.c_a0_c000011 x d j) := (computeWord_and_mask x _ d j).trans rfl
theorem c_a0_c000100 : Statement (.c_a0_c000100 x d j) := (computeWord_and_mask x _ d j).trans rfl
theorem c_a0_c000101 : Statement (.c_a0_c000101 x d j) := (computeWord_and_mask x _ d j).trans rfl
theorem c_a0_c000110 : Statement (.c_a0_c000110 x d j) := (computeWord_and_mask x _ d j).trans rfl
theorem compAMinusD : Statement (.compAMinusD x d j) := (computeWord_and_mask x _ d j).trans rfl
theorem c_a0_c001000 : Statement (.c_a0_c001000 x d j) := (computeWord_and_mask x _ d j).trans rfl
theorem c_a0_c001001 : Statement (.c_a0_c001001 x d j) := (computeWord_and_mask x _ d j).trans rfl
theorem c_a0_c001010 : Statement (.c_a0_c001010 x d j) := (computeWord_and_mask x _ d j).trans rfl
theorem c_a0_c001011 : Statement (.c_a0_c001011 x d j) := (computeWord_and_mask x _ d j).trans rfl
theorem compD : Statement (.compD x d j) := (computeWord_and_mask x _ d j).trans rfl
theorem compNotD : Statement (.compNotD x d j) := (computeWord_and_mask x _ d j).trans rfl
theorem compDMinusOne : Statement (.compDMinusOne x d j) := (computeWord_and_mask x _ d j).trans rfl
theorem compNegD : Statement (.compNegD x d j) := (computeWord_and_mask x _ d j).trans rfl
theorem c_a0_c010000 : Statement (.c_a0_c010000 x d j) := (computeWord_and_mask x _ d j).trans rfl
theorem c_a0_c010001 : Statement (.c_a0_c010001 x d j) := (computeWord_and_mask x _ d j).trans rfl
theorem c_a0_c010010 : Statement (.c_a0_c010010 x d j) := (computeWord_and_mask x _ d j).trans rfl
theorem compDMinusA : Statement (.compDMinusA x d j) := (computeWord_and_mask x _ d j).trans rfl
theorem c_a0_c010100 : Statement (.c_a0_c010100 x d j) := (computeWord_and_mask x _ d j).trans rfl
theorem compDOrA : Statement (.compDOrA x d j) := (computeWord_and_mask x _ d j).trans rfl
theorem c_a0_c010110 : Statement (.c_a0_c010110 x d j) := (computeWord_and_mask x _ d j).trans rfl
theorem c_a0_c010111 : Statement (.c_a0_c010111 x d j) := (computeWord_and_mask x _ d j).trans rfl
theorem c_a0_c011000 : Statement (.c_a0_c011000 x d j) := (computeWord_and_mask x _ d j).trans rfl
theorem c_a0_c011001 : Statement (.c_a0_c011001 x d j) := (computeWord_and_mask x _ d j).trans rfl
theorem c_a0_c011010 : Statement (.c_a0_c011010 x d j) := (computeWord_and_mask x _ d j).trans rfl
theorem c_a0_c011011 : Statement (.c_a0_c011011 x d j) := (computeWord_and_mask x _ d j).trans rfl
theorem c_a0_c011100 : Statement (.c_a0_c011100 x d j) := (computeWord_and_mask x _ d j).trans rfl
theorem c_a0_c011101 : Statement (.c_a0_c011101 x d j) := (computeWord_and_mask x _ d j).trans rfl
theorem c_a0_c011110 : Statement (.c_a0_c011110 x d j) := (computeWord_and_mask x _ d j).trans rfl
theorem compDPlusOne : Statement (.compDPlusOne x d j) := (computeWord_and_mask x _ d j).trans rfl
theorem c_a0_c100000 : Statement (.c_a0_c100000 x d j) := (computeWord_and_mask x _ d j).trans rfl
theorem c_a0_c100001 : Statement (.c_a0_c100001 x d j) := (computeWord_and_mask x _ d j).trans rfl
theorem c_a0_c100010 : Statement (.c_a0_c100010 x d j) := (computeWord_and_mask x _ d j).trans rfl
theorem c_a0_c100011 : Statement (.c_a0_c100011 x d j) := (computeWord_and_mask x _ d j).trans rfl
theorem c_a0_c100100 : Statement (.c_a0_c100100 x d j) := (computeWord_and_mask x _ d j).trans rfl
theorem c_a0_c100101 : Statement (.c_a0_c100101 x d j) := (computeWord_and_mask x _ d j).trans rfl
theorem c_a0_c100110 : Statement (.c_a0_c100110 x d j) := (computeWord_and_mask x _ d j).trans rfl
theorem c_a0_c100111 : Statement (.c_a0_c100111 x d j) := (computeWord_and_mask x _ d j).trans rfl
theorem c_a0_c101000 : Statement (.c_a0_c101000 x d j) := (computeWord_and_mask x _ d j).trans rfl
theorem c_a0_c101001 : Statement (.c_a0_c101001 x d j) := (computeWord_and_mask x _ d j).trans rfl
theorem compZero : Statement (.compZero x d j) := (computeWord_and_mask x _ d j).trans rfl
theorem c_a0_c101011 : Statement (.c_a0_c101011 x d j) := (computeWord_and_mask x _ d j).trans rfl
theorem c_a0_c101100 : Statement (.c_a0_c101100 x d j) := (computeWord_and_mask x _ d j).trans rfl
theorem c_a0_c101101 : Statement (.c_a0_c101101 x d j) := (computeWord_and_mask x _ d j).trans rfl
theorem c_a0_c101110 : Statement (.c_a0_c101110 x d j) := (computeWord_and_mask x _ d j).trans rfl
theorem c_a0_c101111 : Statement (.c_a0_c101111 x d j) := (computeWord_and_mask x _ d j).trans rfl
theorem compA : Statement (.compA x d j) := (computeWord_and_mask x _ d j).trans rfl
theorem compNotA : Statement (.compNotA x d j) := (computeWord_and_mask x _ d j).trans rfl
theorem compAMinusOne : Statement (.compAMinusOne x d j) := (computeWord_and_mask x _ d j).trans rfl
theorem compNegA : Statement (.compNegA x d j) := (computeWord_and_mask x _ d j).trans rfl
theorem c_a0_c110100 : Statement (.c_a0_c110100 x d j) := (computeWord_and_mask x _ d j).trans rfl
theorem c_a0_c110101 : Statement (.c_a0_c110101 x d j) := (computeWord_and_mask x _ d j).trans rfl
theorem c_a0_c110110 : Statement (.c_a0_c110110 x d j) := (computeWord_and_mask x _ d j).trans rfl
theorem compAPlusOne : Statement (.compAPlusOne x d j) := (computeWord_and_mask x _ d j).trans rfl
theorem c_a0_c111000 : Statement (.c_a0_c111000 x d j) := (computeWord_and_mask x _ d j).trans rfl
theorem c_a0_c111001 : Statement (.c_a0_c111001 x d j) := (computeWord_and_mask x _ d j).trans rfl
theorem compMinusOne : Statement (.compMinusOne x d j) := (computeWord_and_mask x _ d j).trans rfl
theorem c_a0_c111011 : Statement (.c_a0_c111011 x d j) := (computeWord_and_mask x _ d j).trans rfl
theorem c_a0_c111100 : Statement (.c_a0_c111100 x d j) := (computeWord_and_mask x _ d j).trans rfl
theorem c_a0_c111101 : Statement (.c_a0_c111101 x d j) := (computeWord_and_mask x _ d j).trans rfl
theorem c_a0_c111110 : Statement (.c_a0_c111110 x d j) := (computeWord_and_mask x _ d j).trans rfl
theorem compOne : Statement (.compOne x d j) := (computeWord_and_mask x _ d j).trans rfl
theorem compDAndM : Statement (.compDAndM x d j) := (computeWord_and_mask x _ d j).trans rfl
theorem c_a1_c000001 : Statement (.c_a1_c000001 x d j) := (computeWord_and_mask x _ d j).trans rfl
theorem compDPlusM : Statement (.compDPlusM x d j) := (computeWord_and_mask x _ d j).trans rfl
theorem c_a1_c000011 : Statement (.c_a1_c000011 x d j) := (computeWord_and_mask x _ d j).trans rfl
theorem c_a1_c000100 : Statement (.c_a1_c000100 x d j) := (computeWord_and_mask x _ d j).trans rfl
theorem c_a1_c000101 : Statement (.c_a1_c000101 x d j) := (computeWord_and_mask x _ d j).trans rfl
theorem c_a1_c000110 : Statement (.c_a1_c000110 x d j) := (computeWord_and_mask x _ d j).trans rfl
theorem compMMinusD : Statement (.compMMinusD x d j) := (computeWord_and_mask x _ d j).trans rfl
theorem c_a1_c001000 : Statement (.c_a1_c001000 x d j) := (computeWord_and_mask x _ d j).trans rfl
theorem c_a1_c001001 : Statement (.c_a1_c001001 x d j) := (computeWord_and_mask x _ d j).trans rfl
theorem c_a1_c001010 : Statement (.c_a1_c001010 x d j) := (computeWord_and_mask x _ d j).trans rfl
theorem c_a1_c001011 : Statement (.c_a1_c001011 x d j) := (computeWord_and_mask x _ d j).trans rfl
theorem c_a1_c001100 : Statement (.c_a1_c001100 x d j) := (computeWord_and_mask x _ d j).trans rfl
theorem c_a1_c001101 : Statement (.c_a1_c001101 x d j) := (computeWord_and_mask x _ d j).trans rfl
theorem c_a1_c001110 : Statement (.c_a1_c001110 x d j) := (computeWord_and_mask x _ d j).trans rfl
theorem c_a1_c001111 : Statement (.c_a1_c001111 x d j) := (computeWord_and_mask x _ d j).trans rfl
theorem c_a1_c010000 : Statement (.c_a1_c010000 x d j) := (computeWord_and_mask x _ d j).trans rfl
theorem c_a1_c010001 : Statement (.c_a1_c010001 x d j) := (computeWord_and_mask x _ d j).trans rfl
theorem c_a1_c010010 : Statement (.c_a1_c010010 x d j) := (computeWord_and_mask x _ d j).trans rfl
theorem compDMinusM : Statement (.compDMinusM x d j) := (computeWord_and_mask x _ d j).trans rfl
theorem c_a1_c010100 : Statement (.c_a1_c010100 x d j) := (computeWord_and_mask x _ d j).trans rfl
theorem compDOrM : Statement (.compDOrM x d j) := (computeWord_and_mask x _ d j).trans rfl
theorem c_a1_c010110 : Statement (.c_a1_c010110 x d j) := (computeWord_and_mask x _ d j).trans rfl
theorem c_a1_c010111 : Statement (.c_a1_c010111 x d j) := (computeWord_and_mask x _ d j).trans rfl
theorem c_a1_c011000 : Statement (.c_a1_c011000 x d j) := (computeWord_and_mask x _ d j).trans rfl
theorem c_a1_c011001 : Statement (.c_a1_c011001 x d j) := (computeWord_and_mask x _ d j).trans rfl
theorem c_a1_c011010 : Statement (.c_a1_c011010 x d j) := (computeWord_and_mask x _ d j).trans rfl
theorem c_a1_c011011 : Statement (.c_a1_c011011 x d j) := (computeWord_and_mask x _ d j).trans rfl
theorem c_a1_c011100 : Statement (.c_a1_c011100 x d j) := (computeWord_and_mask x _ d j).trans rfl
theorem c_a1_c011101 : Statement (.c_a1_c011101 x d j) := (computeWord_and_mask x _ d j).trans rfl
theorem c_a1_c011110 : Statement (.c_a1_c011110 x d j) := (computeWord_and_mask x _ d j).trans rfl
theorem c_a1_c011111 : Statement (.c_a1_c011111 x d j) := (computeWord_and_mask x _ d j).trans rfl
theorem c_a1_c100000 : Statement (.c_a1_c100000 x d j) := (computeWord_and_mask x _ d j).trans rfl
theorem c_a1_c100001 : Statement (.c_a1_c100001 x d j) := (computeWord_and_mask x _ d j).trans rfl
theorem c_a1_c100010 : Statement (.c_a1_c100010 x d j) := (computeWord_and_mask x _ d j).trans rfl
theorem c_a1_c100011 : Statement (.c_a1_c100011 x d j) := (computeWord_and_mask x _ d j).trans rfl
theorem c_a1_c100100 : Statement (.c_a1_c100100 x d j) := (computeWord_and_mask x _ d j).trans rfl
theorem c_a1_c100101 : Statement (.c_a1_c100101 x d j) := (computeWord_and_mask x _ d j).trans rfl
theorem c_a1_c100110 : Statement (.c_a1_c100110 x d j) := (computeWord_and_mask x _ d j).trans rfl
theorem c_a1_c100111 : Statement (.c_a1_c100111 x d j) := (computeWord_and_mask x _ d j).trans rfl
theorem c_a1_c101000 : Statement (.c_a1_c101000 x d j) := (computeWord_and_mask x _ d j).trans rfl
theorem c_a1_c101001 : Statement (.c_a1_c101001 x d j) := (computeWord_and_mask x _ d j).trans rfl
theorem c_a1_c101010 : Statement (.c_a1_c101010 x d j) := (computeWord_and_mask x _ d j).trans rfl
theorem c_a1_c101011 : Statement (.c_a1_c101011 x d j) := (computeWord_and_mask x _ d j).trans rfl
theorem c_a1_c101100 : Statement (.c_a1_c101100 x d j) := (computeWord_and_mask x _ d j).trans rfl
theorem c_a1_c101101 : Statement (.c_a1_c101101 x d j) := (computeWord_and_mask x _ d j).trans rfl
theorem c_a1_c101110 : Statement (.c_a1_c101110 x d j) := (computeWord_and_mask x _ d j).trans rfl
theorem c_a1_c101111 : Statement (.c_a1_c101111 x d j) := (computeWord_and_mask x _ d j).trans rfl
theorem compM : Statement (.compM x d j) := (computeWord_and_mask x _ d j).trans rfl
theorem compNotM : Statement (.compNotM x d j) := (computeWord_and_mask x _ d j).trans rfl
theorem compMMinusOne : Statement (.compMMinusOne x d j) := (computeWord_and_mask x _ d j).trans rfl
theorem compNegM : Statement (.compNegM x d j) := (computeWord_and_mask x _ d j).trans rfl
theorem c_a1_c110100 : Statement (.c_a1_c110100 x d j) := (computeWord_and_mask x _ d j).trans rfl
theorem c_a1_c110101 : Statement (.c_a1_c110101 x d j) := (computeWord_and_mask x _ d j).trans rfl
theorem c_a1_c110110 : Statement (.c_a1_c110110 x d j) := (computeWord_and_mask x _ d j).trans rfl
theorem compMPlusOne : Statement (.compMPlusOne x d j) := (computeWord_and_mask x _ d j).trans rfl
theorem c_a1_c111000 : Statement (.c_a1_c111000 x d j) := (computeWord_and_mask x _ d j).trans rfl
theorem c_a1_c111001 : Statement (.c_a1_c111001 x d j) := (computeWord_and_mask x _ d j).trans rfl
theorem c_a1_c111010 : Statement (.c_a1_c111010 x d j) := (computeWord_and_mask x _ d j).trans rfl
theorem c_a1_c111011 : Statement (.c_a1_c111011 x d j) := (computeWord_and_mask x _ d j).trans rfl
theorem c_a1_c111100 : Statement (.c_a1_c111100 x d j) := (computeWord_and_mask x _ d j).trans rfl
theorem c_a1_c111101 : Statement (.c_a1_c111101 x d j) := (computeWord_and_mask x _ d j).trans rfl
theorem c_a1_c111110 : Statement (.c_a1_c111110 x d j) := (computeWord_and_mask x _ d j).trans rfl
theorem c_a1_c111111 : Statement (.c_a1_c111111 x d j) := (computeWord_and_mask x _ d j).trans rfl

end

end Sys2Proof.Laws.EncodingFitsRow
end

