-- ==== Sys2Proof/Tests/Slice0.lean ====
section
/-! SUPPORT. The model's own tests, all on fixed values from spec/: what WellFormed refuses, the decoding of every
constructor, the value tables of 40_alu.md (R119, R148), the vectors of 95_test_vectors.md, and one witness for the
hypotheses of each statement. -/

namespace Sys2Proof.Tests

open Sys2Proof.Machine

/-! ### Helpers -/

/-- A new machine with these registers. -/
def regs (a d : Word) (pc : Addr) : State := { State.new .fault with a := a, d := d, pc := pc }

/-- The same with this RAM. -/
def regsRam (a d : Word) (ram : Memory) : State := { State.new .fault with a := a, d := d, ram := ram }

/-- A property of the next state; false where there is none. -/
def after (o : Host.Outcome State Fault Refusal) (p : State → Bool) : Bool :=
  match o with
  | .next t => p t
  | .fault _ => false
  | .refused _ => false

/-- The fault, where the outcome is one. -/
def faultOf (o : Host.Outcome State Fault Refusal) : Option Fault :=
  match o with
  | .next _ => none
  | .fault f => some f
  | .refused _ => none

/-- One word run as the next instruction of `s`. -/
def run1 (word : Word) (s : State) : Host.Outcome State Fault Refusal := step (s.withFetchWord 16 word.toNat)

/-- dest D, no jump: bits 5 to 3 are 010 and bits 2 to 0 are 000. -/
def destD : Dest := ⟨false, true, false⟩

def noDest : Dest := ⟨false, false, false⟩

def noJump : Jump := ⟨false, false, false⟩

/-- A row of a value table: the word with bits 14 and 13 set and dest D, the constructor, the results in the two columns. -/
abbrev Row := Word × (BitVec 2 → Dest → Jump → Instr) × Word × Word

/-- The row's word decodes to its constructor, and run in the two states it leaves the two results in D. -/
def rowHolds (s₁ s₂ : State) (r : Row) : Bool :=
  decide (decode r.1 = r.2.1 3#2 destD noJump) &&
  after (run1 r.1 s₁) (fun t => t.d == r.2.2.1) && after (run1 r.1 s₂) (fun t => t.d == r.2.2.2)

/-! ### What WellFormed refuses (R222, R235, R236). Every instruction is well formed (R90): there is no ill-formed one. -/

theorem imageWellFormed_replicate (n : Nat) (w : Word) :
    imageWellFormed (List.replicate n w) = decide (n ≤ 0x8000) := by
  rw [imageWellFormed, List.length_replicate]

theorem test_image_of_32769_words_refused : imageWellFormed (List.replicate 32769 0x0000#16) = false := by
  rw [imageWellFormed_replicate]; decide

theorem test_image_of_32768_words_accepted : imageWellFormed (List.replicate 32768 0x0000#16) = true := by
  rw [imageWellFormed_replicate]; decide

theorem test_host_address_bounds : hostAddressWellFormed 0x6000 = false ∧ hostAddressWellFormed 0x5FFF = true := by
  decide

theorem test_screen_index_bounds : screenIndexWellFormed 8192 = false ∧ screenIndexWellFormed 8191 = true := by decide

/-! ### Decoding of every constructor and its value, from the tables of R119 and R148: x = 5, y = 3 and x = 0x1234,
y = 0xFFF0; y is A where a = 0 and the RAM word at A = 7 where a = 1. The words are those of opcode_table.json, R82. -/

theorem test_decode_address : decode 0b0000000000000111#16 = .atValue 7#15 ∧
    decode 0b0111111111111111#16 = .atValue 0x7FFF#15 ∧ decode 0b0100000000000000#16 = .atValue 0x4000#15 := by decide

def rows_a0_0 : List Row := [
  (0b1110000000010000#16, .compDAndA, 0x0001#16, 0x1230#16),
  (0b1110000001010000#16, .c_a0_c000001, 0xFFFE#16, 0xEDCF#16),
  (0b1110000010010000#16, .compDPlusA, 0x0008#16, 0x1224#16),
  (0b1110000011010000#16, .c_a0_c000011, 0xFFF7#16, 0xEDDB#16),
  (0b1110000100010000#16, .c_a0_c000100, 0x0004#16, 0x0004#16),
  (0b1110000101010000#16, .c_a0_c000101, 0xFFFB#16, 0xFFFB#16),
  (0b1110000110010000#16, .c_a0_c000110, 0x0001#16, 0x1243#16),
  (0b1110000111010000#16, .compAMinusD, 0xFFFE#16, 0xEDBC#16),
  (0b1110001000010000#16, .c_a0_c001000, 0x0000#16, 0x0000#16),
  (0b1110001001010000#16, .c_a0_c001001, 0xFFFF#16, 0xFFFF#16),
  (0b1110001010010000#16, .c_a0_c001010, 0x0005#16, 0x1234#16),
  (0b1110001011010000#16, .c_a0_c001011, 0xFFFA#16, 0xEDCB#16),
  (0b1110001100010000#16, .compD, 0x0005#16, 0x1234#16),
  (0b1110001101010000#16, .compNotD, 0xFFFA#16, 0xEDCB#16),
  (0b1110001110010000#16, .compDMinusOne, 0x0004#16, 0x1233#16),
  (0b1110001111010000#16, .compNegD, 0xFFFB#16, 0xEDCC#16)]

theorem test_rows_a0_0 : rows_a0_0.all (rowHolds (regs 3#16 5#16 0#15) (regs 0xFFF0#16 0x1234#16 0#15)) = true := by decide

def rows_a0_1 : List Row := [
  (0b1110010000010000#16, .c_a0_c010000, 0x0002#16, 0xEDC0#16),
  (0b1110010001010000#16, .c_a0_c010001, 0xFFFD#16, 0x123F#16),
  (0b1110010010010000#16, .c_a0_c010010, 0xFFFD#16, 0xEDBB#16),
  (0b1110010011010000#16, .compDMinusA, 0x0002#16, 0x1244#16),
  (0b1110010100010000#16, .c_a0_c010100, 0xFFF8#16, 0x000B#16),
  (0b1110010101010000#16, .compDOrA, 0x0007#16, 0xFFF4#16),
  (0b1110010110010000#16, .c_a0_c010110, 0xFFF6#16, 0xEDDA#16),
  (0b1110010111010000#16, .c_a0_c010111, 0x0009#16, 0x1225#16),
  (0b1110011000010000#16, .c_a0_c011000, 0x0000#16, 0x0000#16),
  (0b1110011001010000#16, .c_a0_c011001, 0xFFFF#16, 0xFFFF#16),
  (0b1110011010010000#16, .c_a0_c011010, 0xFFFA#16, 0xEDCB#16),
  (0b1110011011010000#16, .c_a0_c011011, 0x0005#16, 0x1234#16),
  (0b1110011100010000#16, .c_a0_c011100, 0xFFFA#16, 0xEDCB#16),
  (0b1110011101010000#16, .c_a0_c011101, 0x0005#16, 0x1234#16),
  (0b1110011110010000#16, .c_a0_c011110, 0xFFF9#16, 0xEDCA#16),
  (0b1110011111010000#16, .compDPlusOne, 0x0006#16, 0x1235#16)]

theorem test_rows_a0_1 : rows_a0_1.all (rowHolds (regs 3#16 5#16 0#15) (regs 0xFFF0#16 0x1234#16 0#15)) = true := by decide

def rows_a0_2 : List Row := [
  (0b1110100000010000#16, .c_a0_c100000, 0x0000#16, 0x0000#16),
  (0b1110100001010000#16, .c_a0_c100001, 0xFFFF#16, 0xFFFF#16),
  (0b1110100010010000#16, .c_a0_c100010, 0x0003#16, 0xFFF0#16),
  (0b1110100011010000#16, .c_a0_c100011, 0xFFFC#16, 0x000F#16),
  (0b1110100100010000#16, .c_a0_c100100, 0x0000#16, 0x0000#16),
  (0b1110100101010000#16, .c_a0_c100101, 0xFFFF#16, 0xFFFF#16),
  (0b1110100110010000#16, .c_a0_c100110, 0xFFFC#16, 0x000F#16),
  (0b1110100111010000#16, .c_a0_c100111, 0x0003#16, 0xFFF0#16),
  (0b1110101000010000#16, .c_a0_c101000, 0x0000#16, 0x0000#16),
  (0b1110101001010000#16, .c_a0_c101001, 0xFFFF#16, 0xFFFF#16),
  (0b1110101010010000#16, .compZero, 0x0000#16, 0x0000#16),
  (0b1110101011010000#16, .c_a0_c101011, 0xFFFF#16, 0xFFFF#16),
  (0b1110101100010000#16, .c_a0_c101100, 0x0000#16, 0x0000#16),
  (0b1110101101010000#16, .c_a0_c101101, 0xFFFF#16, 0xFFFF#16),
  (0b1110101110010000#16, .c_a0_c101110, 0xFFFF#16, 0xFFFF#16),
  (0b1110101111010000#16, .c_a0_c101111, 0x0000#16, 0x0000#16)]

theorem test_rows_a0_2 : rows_a0_2.all (rowHolds (regs 3#16 5#16 0#15) (regs 0xFFF0#16 0x1234#16 0#15)) = true := by decide

def rows_a0_3 : List Row := [
  (0b1110110000010000#16, .compA, 0x0003#16, 0xFFF0#16),
  (0b1110110001010000#16, .compNotA, 0xFFFC#16, 0x000F#16),
  (0b1110110010010000#16, .compAMinusOne, 0x0002#16, 0xFFEF#16),
  (0b1110110011010000#16, .compNegA, 0xFFFD#16, 0x0010#16),
  (0b1110110100010000#16, .c_a0_c110100, 0xFFFC#16, 0x000F#16),
  (0b1110110101010000#16, .c_a0_c110101, 0x0003#16, 0xFFF0#16),
  (0b1110110110010000#16, .c_a0_c110110, 0xFFFB#16, 0x000E#16),
  (0b1110110111010000#16, .compAPlusOne, 0x0004#16, 0xFFF1#16),
  (0b1110111000010000#16, .c_a0_c111000, 0x0000#16, 0x0000#16),
  (0b1110111001010000#16, .c_a0_c111001, 0xFFFF#16, 0xFFFF#16),
  (0b1110111010010000#16, .compMinusOne, 0xFFFF#16, 0xFFFF#16),
  (0b1110111011010000#16, .c_a0_c111011, 0x0000#16, 0x0000#16),
  (0b1110111100010000#16, .c_a0_c111100, 0xFFFF#16, 0xFFFF#16),
  (0b1110111101010000#16, .c_a0_c111101, 0x0000#16, 0x0000#16),
  (0b1110111110010000#16, .c_a0_c111110, 0xFFFE#16, 0xFFFE#16),
  (0b1110111111010000#16, .compOne, 0x0001#16, 0x0001#16)]

theorem test_rows_a0_3 : rows_a0_3.all (rowHolds (regs 3#16 5#16 0#15) (regs 0xFFF0#16 0x1234#16 0#15)) = true := by decide

def rows_a1_0 : List Row := [
  (0b1111000000010000#16, .compDAndM, 0x0001#16, 0x1230#16),
  (0b1111000001010000#16, .c_a1_c000001, 0xFFFE#16, 0xEDCF#16),
  (0b1111000010010000#16, .compDPlusM, 0x0008#16, 0x1224#16),
  (0b1111000011010000#16, .c_a1_c000011, 0xFFF7#16, 0xEDDB#16),
  (0b1111000100010000#16, .c_a1_c000100, 0x0004#16, 0x0004#16),
  (0b1111000101010000#16, .c_a1_c000101, 0xFFFB#16, 0xFFFB#16),
  (0b1111000110010000#16, .c_a1_c000110, 0x0001#16, 0x1243#16),
  (0b1111000111010000#16, .compMMinusD, 0xFFFE#16, 0xEDBC#16),
  (0b1111001000010000#16, .c_a1_c001000, 0x0000#16, 0x0000#16),
  (0b1111001001010000#16, .c_a1_c001001, 0xFFFF#16, 0xFFFF#16),
  (0b1111001010010000#16, .c_a1_c001010, 0x0005#16, 0x1234#16),
  (0b1111001011010000#16, .c_a1_c001011, 0xFFFA#16, 0xEDCB#16),
  (0b1111001100010000#16, .c_a1_c001100, 0x0005#16, 0x1234#16),
  (0b1111001101010000#16, .c_a1_c001101, 0xFFFA#16, 0xEDCB#16),
  (0b1111001110010000#16, .c_a1_c001110, 0x0004#16, 0x1233#16),
  (0b1111001111010000#16, .c_a1_c001111, 0xFFFB#16, 0xEDCC#16)]

theorem test_rows_a1_0 : rows_a1_0.all (rowHolds (regsRam 7#16 5#16 [(7, 3#16)]) (regsRam 7#16 0x1234#16 [(7, 0xFFF0#16)])) = true := by decide

def rows_a1_1 : List Row := [
  (0b1111010000010000#16, .c_a1_c010000, 0x0002#16, 0xEDC0#16),
  (0b1111010001010000#16, .c_a1_c010001, 0xFFFD#16, 0x123F#16),
  (0b1111010010010000#16, .c_a1_c010010, 0xFFFD#16, 0xEDBB#16),
  (0b1111010011010000#16, .compDMinusM, 0x0002#16, 0x1244#16),
  (0b1111010100010000#16, .c_a1_c010100, 0xFFF8#16, 0x000B#16),
  (0b1111010101010000#16, .compDOrM, 0x0007#16, 0xFFF4#16),
  (0b1111010110010000#16, .c_a1_c010110, 0xFFF6#16, 0xEDDA#16),
  (0b1111010111010000#16, .c_a1_c010111, 0x0009#16, 0x1225#16),
  (0b1111011000010000#16, .c_a1_c011000, 0x0000#16, 0x0000#16),
  (0b1111011001010000#16, .c_a1_c011001, 0xFFFF#16, 0xFFFF#16),
  (0b1111011010010000#16, .c_a1_c011010, 0xFFFA#16, 0xEDCB#16),
  (0b1111011011010000#16, .c_a1_c011011, 0x0005#16, 0x1234#16),
  (0b1111011100010000#16, .c_a1_c011100, 0xFFFA#16, 0xEDCB#16),
  (0b1111011101010000#16, .c_a1_c011101, 0x0005#16, 0x1234#16),
  (0b1111011110010000#16, .c_a1_c011110, 0xFFF9#16, 0xEDCA#16),
  (0b1111011111010000#16, .c_a1_c011111, 0x0006#16, 0x1235#16)]

theorem test_rows_a1_1 : rows_a1_1.all (rowHolds (regsRam 7#16 5#16 [(7, 3#16)]) (regsRam 7#16 0x1234#16 [(7, 0xFFF0#16)])) = true := by decide

def rows_a1_2 : List Row := [
  (0b1111100000010000#16, .c_a1_c100000, 0x0000#16, 0x0000#16),
  (0b1111100001010000#16, .c_a1_c100001, 0xFFFF#16, 0xFFFF#16),
  (0b1111100010010000#16, .c_a1_c100010, 0x0003#16, 0xFFF0#16),
  (0b1111100011010000#16, .c_a1_c100011, 0xFFFC#16, 0x000F#16),
  (0b1111100100010000#16, .c_a1_c100100, 0x0000#16, 0x0000#16),
  (0b1111100101010000#16, .c_a1_c100101, 0xFFFF#16, 0xFFFF#16),
  (0b1111100110010000#16, .c_a1_c100110, 0xFFFC#16, 0x000F#16),
  (0b1111100111010000#16, .c_a1_c100111, 0x0003#16, 0xFFF0#16),
  (0b1111101000010000#16, .c_a1_c101000, 0x0000#16, 0x0000#16),
  (0b1111101001010000#16, .c_a1_c101001, 0xFFFF#16, 0xFFFF#16),
  (0b1111101010010000#16, .c_a1_c101010, 0x0000#16, 0x0000#16),
  (0b1111101011010000#16, .c_a1_c101011, 0xFFFF#16, 0xFFFF#16),
  (0b1111101100010000#16, .c_a1_c101100, 0x0000#16, 0x0000#16),
  (0b1111101101010000#16, .c_a1_c101101, 0xFFFF#16, 0xFFFF#16),
  (0b1111101110010000#16, .c_a1_c101110, 0xFFFF#16, 0xFFFF#16),
  (0b1111101111010000#16, .c_a1_c101111, 0x0000#16, 0x0000#16)]

theorem test_rows_a1_2 : rows_a1_2.all (rowHolds (regsRam 7#16 5#16 [(7, 3#16)]) (regsRam 7#16 0x1234#16 [(7, 0xFFF0#16)])) = true := by decide

def rows_a1_3 : List Row := [
  (0b1111110000010000#16, .compM, 0x0003#16, 0xFFF0#16),
  (0b1111110001010000#16, .compNotM, 0xFFFC#16, 0x000F#16),
  (0b1111110010010000#16, .compMMinusOne, 0x0002#16, 0xFFEF#16),
  (0b1111110011010000#16, .compNegM, 0xFFFD#16, 0x0010#16),
  (0b1111110100010000#16, .c_a1_c110100, 0xFFFC#16, 0x000F#16),
  (0b1111110101010000#16, .c_a1_c110101, 0x0003#16, 0xFFF0#16),
  (0b1111110110010000#16, .c_a1_c110110, 0xFFFB#16, 0x000E#16),
  (0b1111110111010000#16, .compMPlusOne, 0x0004#16, 0xFFF1#16),
  (0b1111111000010000#16, .c_a1_c111000, 0x0000#16, 0x0000#16),
  (0b1111111001010000#16, .c_a1_c111001, 0xFFFF#16, 0xFFFF#16),
  (0b1111111010010000#16, .c_a1_c111010, 0xFFFF#16, 0xFFFF#16),
  (0b1111111011010000#16, .c_a1_c111011, 0x0000#16, 0x0000#16),
  (0b1111111100010000#16, .c_a1_c111100, 0xFFFF#16, 0xFFFF#16),
  (0b1111111101010000#16, .c_a1_c111101, 0x0000#16, 0x0000#16),
  (0b1111111110010000#16, .c_a1_c111110, 0xFFFE#16, 0xFFFE#16),
  (0b1111111111010000#16, .c_a1_c111111, 0x0001#16, 0x0001#16)]

theorem test_rows_a1_3 : rows_a1_3.all (rowHolds (regsRam 7#16 5#16 [(7, 3#16)]) (regsRam 7#16 0x1234#16 [(7, 0xFFF0#16)])) = true := by decide

/-! ### Section 2.1: the 18 mnemonic patterns on five input pairs, out and both flags -/

/-- `out`, `zr` and `ng` of a pattern on the five input pairs of section 2.1. -/
def fivePairs (pattern : BitVec 6) : List (Word × Bool × Bool) :=
  [(0x0000#16, 0x0000#16), (0x0001#16, 0xFFFF#16), (0x7FFF#16, 0x0001#16), (0x8000#16, 0x8000#16),
    (0xFFFF#16, 0x0001#16)].map fun p =>
    ((alu p.1 p.2 (aluControl pattern)).out, (alu p.1 p.2 (aluControl pattern)).zr, (alu p.1 p.2 (aluControl pattern)).ng)

theorem test_alu_vectors_0 :
    fivePairs 0b101010#6 = [(0x0000#16, true, false), (0x0000#16, true, false), (0x0000#16, true, false),
      (0x0000#16, true, false), (0x0000#16, true, false)] ∧
    fivePairs 0b111111#6 = [(0x0001#16, false, false), (0x0001#16, false, false), (0x0001#16, false, false),
      (0x0001#16, false, false), (0x0001#16, false, false)] ∧
    fivePairs 0b111010#6 = [(0xFFFF#16, false, true), (0xFFFF#16, false, true), (0xFFFF#16, false, true),
      (0xFFFF#16, false, true), (0xFFFF#16, false, true)] ∧
    fivePairs 0b001100#6 = [(0x0000#16, true, false), (0x0001#16, false, false), (0x7FFF#16, false, false),
      (0x8000#16, false, true), (0xFFFF#16, false, true)] ∧
    fivePairs 0b110000#6 = [(0x0000#16, true, false), (0xFFFF#16, false, true), (0x0001#16, false, false),
      (0x8000#16, false, true), (0x0001#16, false, false)] ∧
    fivePairs 0b001101#6 = [(0xFFFF#16, false, true), (0xFFFE#16, false, true), (0x8000#16, false, true),
      (0x7FFF#16, false, false), (0x0000#16, true, false)] ∧
    fivePairs 0b110001#6 = [(0xFFFF#16, false, true), (0x0000#16, true, false), (0xFFFE#16, false, true),
      (0x7FFF#16, false, false), (0xFFFE#16, false, true)] ∧
    fivePairs 0b001111#6 = [(0x0000#16, true, false), (0xFFFF#16, false, true), (0x8001#16, false, true),
      (0x8000#16, false, true), (0x0001#16, false, false)] ∧
    fivePairs 0b110011#6 = [(0x0000#16, true, false), (0x0001#16, false, false), (0xFFFF#16, false, true),
      (0x8000#16, false, true), (0xFFFF#16, false, true)] := by decide

theorem test_alu_vectors_1 :
    fivePairs 0b011111#6 = [(0x0001#16, false, false), (0x0002#16, false, false), (0x8000#16, false, true),
      (0x8001#16, false, true), (0x0000#16, true, false)] ∧
    fivePairs 0b110111#6 = [(0x0001#16, false, false), (0x0000#16, true, false), (0x0002#16, false, false),
      (0x8001#16, false, true), (0x0002#16, false, false)] ∧
    fivePairs 0b001110#6 = [(0xFFFF#16, false, true), (0x0000#16, true, false), (0x7FFE#16, false, false),
      (0x7FFF#16, false, false), (0xFFFE#16, false, true)] ∧
    fivePairs 0b110010#6 = [(0xFFFF#16, false, true), (0xFFFE#16, false, true), (0x0000#16, true, false),
      (0x7FFF#16, false, false), (0x0000#16, true, false)] ∧
    fivePairs 0b000010#6 = [(0x0000#16, true, false), (0x0000#16, true, false), (0x8000#16, false, true),
      (0x0000#16, true, false), (0x0000#16, true, false)] ∧
    fivePairs 0b010011#6 = [(0x0000#16, true, false), (0x0002#16, false, false), (0x7FFE#16, false, false),
      (0x0000#16, true, false), (0xFFFE#16, false, true)] ∧
    fivePairs 0b000111#6 = [(0x0000#16, true, false), (0xFFFE#16, false, true), (0x8002#16, false, true),
      (0x0000#16, true, false), (0x0002#16, false, false)] ∧
    fivePairs 0b000000#6 = [(0x0000#16, true, false), (0x0001#16, false, false), (0x0001#16, false, false),
      (0x8000#16, false, true), (0x0001#16, false, false)] ∧
    fivePairs 0b010101#6 = [(0x0000#16, true, false), (0xFFFF#16, false, true), (0x7FFF#16, false, false),
      (0x8000#16, false, true), (0xFFFF#16, false, true)] := by decide

/-! ### Section 2.2: the jump table, on aluOut = 0x0000, 0x0001, 0x7FFF, 0x8000, 0xFFFF, as D of the word `D;jump` at
A = 0x0100 and PC = 5 -/

/-- Whether the word jumps for each of the five values of D; `none` where PC is neither the target nor PC + 1. -/
def jumps (word : Word) : List (Option Bool) :=
  [0x0000#16, 0x0001#16, 0x7FFF#16, 0x8000#16, 0xFFFF#16].map fun d =>
    match exec (decode word) (regs 0x0100#16 d 5#15) with
    | .next t => if t.pc = 0x0100#15 then some true else if t.pc = 6#15 then some false else none
    | .fault _ => none
    | .refused _ => none

theorem test_jump_table :
    jumps 0b1110001100000000#16 = [some false, some false, some false, some false, some false] ∧
    jumps 0b1110001100000001#16 = [some false, some true, some true, some false, some false] ∧
    jumps 0b1110001100000010#16 = [some true, some false, some false, some false, some false] ∧
    jumps 0b1110001100000011#16 = [some true, some true, some true, some false, some false] ∧
    jumps 0b1110001100000100#16 = [some false, some false, some false, some true, some true] ∧
    jumps 0b1110001100000101#16 = [some false, some true, some true, some true, some true] ∧
    jumps 0b1110001100000110#16 = [some true, some false, some false, some true, some true] ∧
    jumps 0b1110001100000111#16 = [some true, some true, some true, some true, some true] := by decide

/-! ### Sections 1, 2.3 to 2.6: single cycles -/

/-- AI1: `@0` from A = 0x1234. AI3: `@32767` from A = 0xFFFF at PC = 5, no fault although 0x7FFF is unmapped. -/
theorem test_AI1_AI3 :
    after (run1 0x0000#16 (regs 0x1234#16 0#16 0#15)) (fun t => t.a == 0#16 && t.pc == 1#15) = true ∧
    after (run1 0x7FFF#16 (regs 0xFFFF#16 0#16 5#15)) (fun t => t.a == 0x7FFF#16 && t.pc == 6#15) = true := by decide

/-- AI4: `@16384` with D = 9. AI5: `@5` with reset = 1 at PC = 3. -/
theorem test_AI4_AI5 :
    after (run1 0x4000#16 (regs 0#16 9#16 0#15))
      (fun t => t.a == 0x4000#16 && t.d == 9#16 && decide (t.ram = []) && decide (t.screen = [])) = true ∧
    after (run1 0x0005#16 { regs 0#16 0#16 3#15 with input := ⟨0#16, true⟩ })
      (fun t => t.a == 5#16 && t.pc == 0#15) = true := by decide

/-- A, D and RAM after a word run with D = 5, A = 100. -/
def destAfter (word : Word) (ram : Memory) (a d : Word) : Bool :=
  after (run1 word (regs 100#16 5#16 0#15))
    (fun t => decide (t.ram = ram) && t.a == a && t.d == d && t.pc == 1#15 && decide (t.screen = []))

/-- DS1 to DS8: `D+1` with each dest, D = 5, A = 100. -/
theorem test_DS1_to_DS8 :
    destAfter 0xE7C0#16 [] 100#16 5#16 = true ∧ destAfter 0xE7C8#16 [(100, 6#16)] 100#16 5#16 = true ∧
    destAfter 0xE7D0#16 [] 100#16 6#16 = true ∧ destAfter 0xE7D8#16 [(100, 6#16)] 100#16 6#16 = true ∧
    destAfter 0xE7E0#16 [] 6#16 5#16 = true ∧ destAfter 0xE7E8#16 [(100, 6#16)] 6#16 5#16 = true ∧
    destAfter 0xE7F0#16 [] 6#16 6#16 = true ∧ destAfter 0xE7F8#16 [(100, 6#16)] 6#16 6#16 = true := by decide

/-- DS9: `A=D+1` sets bit 15 of A. DS10: `AM=M+1` at A = 0, RAM[0] = 256 (R200). -/
theorem test_DS9_DS10 :
    after (run1 0xE7E0#16 (regs 100#16 0x7FFF#16 0#15)) (fun t => t.a == 0x8000#16) = true ∧
    after (run1 0xFDE8#16 (regsRam 0#16 0#16 [(0, 256#16)]))
      (fun t => decide (t.ram = [(0, 257#16)]) && t.a == 257#16) = true := by decide

/-- M1, M2: the reads at the corners of RAM and Screen. -/
theorem test_M1_M2 :
    let s := { State.new .fault with ram := [(0, 11#16), (16383, 12#16)], screen := [(0, 13#16), (8191, 14#16)] }
    memRead s 0x0000#15 = 11#16 ∧ memRead s 0x3FFF#15 = 12#16 ∧ memRead s 0x4000#15 = 13#16 ∧
    memRead s 0x5FFF#15 = 14#16 := by decide

/-- M3 (its stores): `M=-1` at 16384, `M=1` at 24575. M4: the keyboard word, written and read. -/
theorem test_M3_M4 :
    after (run1 0xEE88#16 (regs 16384#16 0#16 0#15)) (fun t => decide (t.screen = [(0, 0xFFFF#16)] ∧ t.ram = [])) = true ∧
    after (run1 0xEFC8#16 (regs 24575#16 0#16 0#15)) (fun t => decide (t.screen = [(8191, 1#16)] ∧ t.ram = [])) = true ∧
    after (run1 0xEFC8#16 { regs 24576#16 0#16 0#15 with input := ⟨9#16, false⟩ })
      (fun t => decide (t.screen = [] ∧ t.ram = [] ∧ t.input.key = 9#16)) = true ∧
    after (run1 0xFC10#16 { regs 24576#16 0#16 0#15 with input := ⟨9#16, false⟩ }) (fun t => t.d == 9#16) = true := by decide

/-- M5: `D=M` at 0x6001 with key = 65, under each policy. -/
theorem test_M5 :
    let s := { regs 0x6001#16 0#16 1#15 with input := ⟨65#16, false⟩ }
    faultOf (run1 0xFC10#16 s) = some (.unmappedAccess 0x6001#15) ∧
    after (run1 0xFC10#16 { s with unmappedPolicy := .aliasKeyboard })
      (fun t => t.d == 0x0041#16 && t.pc == 2#15) = true := by decide

/-- M6: `D=A` at 0x6001 does not use M. M7: `D=M` at A = 0xFFFF faults with addressM = 0x7FFF. -/
theorem test_M6_M7 :
    after (run1 0xEC10#16 (regs 0x6001#16 0#16 1#15)) (fun t => t.d == 0x6001#16 && t.pc == 2#15) = true ∧
    faultOf (run1 0xFC10#16 (regs 0xFFFF#16 0#16 1#15)) = some (.unmappedAccess 0x7FFF#15) := by decide

/-- M8, M9: `MD=M+1` with RAM[0] = 41 reads 41 and writes 42; the next cycle's `D=M` and `D=D+M` see 42. -/
theorem test_M8_M9 :
    after (run1 0xFDD8#16 (regsRam 0#16 0#16 [(0, 41#16)])) (fun t => decide (t.ram = [(0, 42#16)]) && t.d == 42#16 &&
      after (run1 0xFC10#16 t) (fun u => u.d == 42#16) && after (run1 0xF090#16 t) (fun u => u.d == 84#16)) = true := by
  decide

/-- X1: host reset(). X11: poke(0x6000, 1). -/
theorem test_X1_X11 :
    let s := { regs 3#16 4#16 9#15 with ram := [(0, 5#16)] }
    hostOp .reset s = (.done, { s with pc := 0#15 }) ∧ hostOp (.poke 0x6000 1#16) s = (.refused (.outOfRange 0x6000), s) := by
  decide

/-- X2 (its cycle 4): `M=D;JMP` at A = 20, D = 7 with reset = 1: the store commits, reset wins over the jump. X4: PC
wraps after `D` at 0x7FFF. -/
theorem test_X2_X4 :
    after (exec (decode 0xE30F#16) { regs 20#16 7#16 3#15 with input := ⟨0#16, true⟩ })
      (fun t => decide (t.ram = [(20, 7#16)]) && t.a == 20#16 && t.d == 7#16 && t.pc == 0#15) = true ∧
    after (exec (decode 0xE300#16) (regs 0#16 0#16 0x7FFF#15)) (fun t => t.pc == 0#15) = true := by decide

/-- X5: `0;JMP` at A = 0xFFFF. X6: `A=A-1;JMP` at A = 10. X7: `AM=M-1;JEQ` at A = 5 with RAM[5] = 1. -/
theorem test_X5_X6_X7 :
    after (run1 0xEA87#16 (regs 0xFFFF#16 0#16 1#15)) (fun t => t.pc == 0x7FFF#15) = true ∧
    after (run1 0xECA7#16 (regs 10#16 0#16 1#15)) (fun t => t.a == 9#16 && t.pc == 10#15) = true ∧
    after (run1 0xFCAA#16 { regs 5#16 0#16 1#15 with ram := [(5, 1#16)] })
      (fun t => decide (t.ram = []) && t.a == 0#16 && t.pc == 5#15) = true := by decide

/-- X8: an image of `@1` alone: the second cycle faults. X9: `0;JMP` with reset = 1. S9: `0;JMP` with A = 17. -/
theorem test_X8_X9_S9 :
    after (step { State.new .fault with rom := [0x0001#16] }) (fun t => t.a == 1#16 && t.pc == 1#15 &&
      decide (faultOf (step t) = some (.fetchOutsideImage 1#15))) = true ∧
    after (run1 0xEA87#16 { regs 17#16 0#16 0#15 with input := ⟨0#16, true⟩ }) (fun t => t.pc == 0#15) = true ∧
    after (run1 0xEA87#16 (regs 17#16 0#16 0#15)) (fun t => t.pc == 17#15 && t.a == 17#16 && t.d == 0#16) = true := by decide

/-- The first instruction after reset, as the host asks it; with nothing placed, the fetch faults (R71). -/
theorem test_first_instruction_after_reset :
    decodeTableWord 16 0xEC10 = some (.compA 3#2 destD noJump) ∧
    after (step (State.reset.withFetchWord 16 0x0015)) (fun t => t.a == 21#16 && t.pc == 1#15) = true ∧
    faultOf (step State.reset) = some (.fetchOutsideImage 0#15) := by decide

/-! ### Witnesses: one theorem per statement with hypotheses, a concrete state and operands that meet all of them, each
clause at the ends of its range -/

/-- A machine with A at an address, D = 1, the lines idle and the two-word image `D;JMP`, `@7`. -/
def atAddress (a : Word) (policy : UnmappedPolicy) : State :=
  { State.new policy with a := a, d := 1#16, rom := [0xE307#16, 0x0007#16] }

/-- The same with reset high and a key pressed. -/
def inReset (s : State) : State := { s with input := ⟨65#16, true⟩ }

theorem witness_PowerOnStateIsZero :
    ([] : List Word).length ≤ 32768 ∧ (List.replicate 32768 0xE300#16).length ≤ 32768 := by
  rw [List.length_replicate]; decide

theorem witness_StepExecutesFetchedInstruction :
    (atAddress 0#16 .fault).stopped = none ∧
    (atAddress 0#16 .fault).rom[(atAddress 0#16 .fault).pc.toNat]? = some 0xE307#16 := by decide

theorem witness_PlacedWordRunsNext : 0xFFFF < 2 ^ 16 ∧ 0 < 2 ^ 16 ∧
    1 < (atAddress 0#16 .fault).rom.length ∧ 1 ≠ (atAddress 0#16 .fault).pc.toNat := by decide

/-- PC = n - 1 and PC = n with one word, and PC = 0x7FFF with the longest image. -/
theorem witness_FetchInsideAndOutsideTheImage :
    [0xE300#16].length ≤ 32768 ∧ (regs 0#16 0#16 0#15).stopped = none ∧
    [0xE300#16][(regs 0#16 0#16 0#15).pc.toNat]? = some 0xE300#16 ∧
    [0xE300#16].length ≤ (regs 0#16 0#16 1#15).pc.toNat ∧
    (List.replicate 32768 0xE300#16).length ≤ 32768 ∧
    (List.replicate 32768 0xE300#16)[(regs 0#16 0#16 0x7FFF#15).pc.toNat]? = some 0xE300#16 := by
  refine ⟨by decide, rfl, by decide, by decide, by rw [List.length_replicate], ?_⟩
  have h : (regs 0#16 0#16 0x7FFF#15).pc.toNat = 32767 := by decide
  rw [h, List.getElem?_replicate, if_pos (by decide)]

/-- `D=M` (0xFC10), `M=D` (0xE308) and the A-instruction 0x7FFF at the ends of the unmapped range and beside it. -/
theorem witness_FaultOrderAndResetPriority :
    (regs 0#16 0#16 0#15).stopped = none ∧ (regs 0#16 0#16 0#15).rom.length ≤ (regs 0#16 0#16 0#15).pc.toNat ∧
    (0xFC10#16 : Word).getLsbD 15 = true ∧ UsesM 0xFC10#16 ∧ UsesM 0xE308#16 ∧ (0xE308#16 : Word).getLsbD 15 = true ∧
    ¬ MRuns (atAddress 0x6001#16 .fault) ∧ ¬ MRuns (atAddress 0x7FFF#16 .fault) ∧
    ¬ MRuns (inReset (atAddress 0x6001#16 .fault)) ∧
    MRuns (atAddress 0x6000#16 .fault) ∧ MRuns (atAddress 0x7FFF#16 .aliasKeyboard) ∧ ¬ UsesM 0xE307#16 ∧
    (inReset (atAddress 0x6001#16 .fault)).input.reset = true := by decide

theorem witness_CycleEndsInCommitOrModelFault :
    (atAddress 0#16 .fault).stopped = none ∧ (regs 0#16 0#16 0x7FFF#15).stopped = none ∧
    (atAddress 0x7FFF#16 .fault).stopped = none := by decide

/-- Both faults of a cycle, and a state that has one recorded. -/
theorem witness_RecordedFaultIsTerminalAndSticky :
    faultOf (step { regs 0#16 0#16 2#15 with input := ⟨65#16, true⟩ }) = some (.fetchOutsideImage 2#15) ∧
    faultOf (step { State.new .fault with a := 0xE001#16, rom := [0xFC10#16], input := ⟨0#16, false⟩ }) =
      some (.unmappedAccess 0x6001#15) ∧
    { State.new .fault with stopped := some (.fetchOutsideImage 0x7FFF#15) }.stopped =
      some (.fetchOutsideImage 0x7FFF#15) := by decide

theorem witness_AInstructionLoadsZeroExtendedLiteral :
    (0x0000#16 : Word).getLsbD 15 = false ∧ (0x7FFF#16 : Word).getLsbD 15 = false ∧
    (inReset (atAddress 0#16 .fault)).input.reset = true ∧ (atAddress 0#16 .fault).input.reset = false := by decide

/-- What `CompRule` assumes, beside the words of the tables above (`test_rows_…`): M used and running at each end of each
region, M used and not running at both ends of the unmapped range, M not used there. -/
def compRuleWitness (word : Word) (ac : BitVec 7) : Prop :=
  word.getLsbD 15 = true ∧ word.extractLsb' 6 7 = ac

/-- A C-instruction that uses M runs at each end of each mapped region, and faults at both ends of the unmapped range. -/
theorem witness_MRuns :
    [0x0000#16, 0x3FFF#16, 0x4000#16, 0x5FFF#16, 0x6000#16, 0x8000#16, 0xE000#16].all
      (fun a => decide (MRuns (atAddress a .fault))) = true ∧
    [0x6001#16, 0x7FFF#16, 0xE001#16, 0xFFFF#16].all
      (fun a => decide (¬ MRuns (atAddress a .fault) ∧ MRuns (atAddress a .aliasKeyboard))) = true := by decide

theorem witness_ConstantSelections :
    compRuleWitness 0xEA90#16 0b0101010#7 ∧ compRuleWitness 0x8FC8#16 0b0111111#7 ∧
    compRuleWitness 0xCE87#16 0b0111010#7 ∧ (Dest.toM ⟨false, false, true⟩ = true) ∧
    MRuns (atAddress 0x6000#16 .fault) ∧ ¬ MRuns (atAddress 0x6001#16 .fault) := by
  unfold compRuleWitness; decide

theorem witness_RegisterUnarySelections :
    compRuleWitness 0xE310#16 0b0001100#7 ∧ compRuleWitness 0xEC10#16 0b0110000#7 ∧
    compRuleWitness 0xE350#16 0b0001101#7 ∧ compRuleWitness 0xEC50#16 0b0110001#7 ∧
    compRuleWitness 0xE3D0#16 0b0001111#7 ∧ compRuleWitness 0xECD0#16 0b0110011#7 ∧
    (Dest.toM ⟨false, false, true⟩ = true) ∧ MRuns (atAddress 0x3FFF#16 .fault) ∧
    ¬ MRuns (atAddress 0x7FFF#16 .fault) := by
  unfold compRuleWitness; decide

theorem witness_RegisterStepSelections :
    compRuleWitness 0xE7D0#16 0b0011111#7 ∧ compRuleWitness 0xEDD0#16 0b0110111#7 ∧
    compRuleWitness 0xE390#16 0b0001110#7 ∧ compRuleWitness 0xEC90#16 0b0110010#7 ∧
    (Dest.toM ⟨false, false, true⟩ = true) ∧ MRuns (atAddress 0x4000#16 .fault) ∧
    ¬ MRuns (atAddress 0x6001#16 .fault) := by
  unfold compRuleWitness; decide

theorem witness_RegisterBinarySelections :
    compRuleWitness 0xE090#16 0b0000010#7 ∧ compRuleWitness 0xE4D0#16 0b0010011#7 ∧
    compRuleWitness 0xE1D0#16 0b0000111#7 ∧ compRuleWitness 0xE010#16 0b0000000#7 ∧
    compRuleWitness 0xE550#16 0b0010101#7 ∧ (Dest.toM ⟨false, false, true⟩ = true) ∧
    MRuns (atAddress 0x5FFF#16 .fault) ∧ ¬ MRuns (atAddress 0x7FFF#16 .fault) := by
  unfold compRuleWitness; decide

theorem witness_MemoryUnarySelections :
    compRuleWitness 0xFC10#16 0b1110000#7 ∧ compRuleWitness 0xFC50#16 0b1110001#7 ∧
    compRuleWitness 0xFCD0#16 0b1110011#7 ∧ compRuleWitness 0xFDD0#16 0b1110111#7 ∧
    compRuleWitness 0xFC90#16 0b1110010#7 ∧ MRuns (atAddress 0x6000#16 .fault) ∧
    MRuns (atAddress 0x6001#16 .aliasKeyboard) ∧ ¬ MRuns (atAddress 0x6001#16 .fault) := by
  unfold compRuleWitness; decide

theorem witness_MemoryBinarySelections :
    compRuleWitness 0xF090#16 0b1000010#7 ∧ compRuleWitness 0xF4D0#16 0b1010011#7 ∧
    compRuleWitness 0xF1D0#16 0b1000111#7 ∧ compRuleWitness 0xF010#16 0b1000000#7 ∧
    compRuleWitness 0xF550#16 0b1010101#7 ∧ MRuns (atAddress 0x0000#16 .fault) ∧
    MRuns (atAddress 0x7FFF#16 .aliasKeyboard) ∧ ¬ MRuns (atAddress 0x7FFF#16 .fault) := by
  unfold compRuleWitness; decide

theorem witness_UnnamedRegisterSelections :
    (rows_a0_0 ++ rows_a0_1 ++ rows_a0_2 ++ rows_a0_3).all (fun r => decide (r.1.getLsbD 15 = true ∧
      r.1.getLsbD 12 = false)) = true ∧ (Dest.toM ⟨false, false, true⟩ = true) ∧
    MRuns (atAddress 0x6000#16 .fault) ∧ ¬ MRuns (atAddress 0x6001#16 .fault) := by decide

theorem witness_UnnamedMemorySelections :
    (rows_a1_0 ++ rows_a1_1 ++ rows_a1_2 ++ rows_a1_3).all (fun r => decide (r.1.getLsbD 15 = true ∧
      r.1.getLsbD 12 = true)) = true ∧
    MRuns (atAddress 0x6000#16 .fault) ∧ ¬ MRuns (atAddress 0x6001#16 .fault) := by decide

/-- One word per dest value with a = 0 and one with a = 1. -/
theorem witness_DestFieldNamesTheDestinations :
    [0b000#3, 0b001#3, 0b010#3, 0b011#3, 0b100#3, 0b101#3, 0b110#3, 0b111#3].all (fun d =>
      [0b1110001100#10 ++ d ++ 0b000#3, 0b1001110000#10 ++ d ++ 0b111#3].all (fun w =>
        w.getLsbD 15 && w.extractLsb' 3 3 == d)) = true ∧
    MRuns (atAddress 0x6000#16 .fault) ∧ ¬ MRuns (atAddress 0x6001#16 .fault) ∧ ¬ MRuns (atAddress 0xFFFF#16 .fault) := by
  decide

/-- One word per jump value, `D;jump`; D = 1 is positive, and the table of section 2.2 above gives the other signs. -/
theorem witness_JumpFieldDecidesThePc :
    [0b000#3, 0b001#3, 0b010#3, 0b011#3, 0b100#3, 0b101#3, 0b110#3, 0b111#3].all (fun j =>
      let w : Word := 0b1110001100000#13 ++ j
      w.getLsbD 15 && w.extractLsb' 0 3 == j && decide (¬ UsesM w)) = true ∧
    [0x0000#16, 0x0001#16, 0x7FFF#16, 0x8000#16, 0xFFFF#16].all (fun d =>
      resultOf 0xE301#16 { atAddress 0x6001#16 .fault with d := d } == d) = true ∧
    (inReset (atAddress 0#16 .fault)).input.reset = true ∧ (atAddress 0#16 .fault).input.reset = false ∧
    (0x7FFF#16 : Word).toInt > 0 ∧ (0x8000#16 : Word).toInt < 0 := by decide

theorem witness_UnmappedAccessUnderEachPolicy :
    (atAddress 0x6001#16 .fault).unmappedPolicy = .fault ∧ UsesM 0xFC10#16 ∧
    Unmapped (trunc15 (atAddress 0x6001#16 .fault).a) ∧ Unmapped (trunc15 (atAddress 0x7FFF#16 .fault).a) ∧
    ¬ Unmapped (trunc15 (atAddress 0x6000#16 .fault).a) ∧
    (atAddress 0x6001#16 .aliasKeyboard).unmappedPolicy = .aliasKeyboard ∧
    Unmapped (trunc15 (atAddress 0xFFFF#16 .aliasKeyboard).a) := by decide

theorem witness_MemoryControllerFollowsTheAddressMap :
    (0x0000#15 : Addr).toNat < 0x4000 ∧ (0x3FFF#15 : Addr).toNat < 0x4000 ∧
    0x4000 ≤ (0x4000#15 : Addr).toNat ∧ (0x4000#15 : Addr).toNat < 0x6000 ∧
    0x4000 ≤ (0x5FFF#15 : Addr).toNat ∧ (0x5FFF#15 : Addr).toNat < 0x6000 := by decide

theorem witness_KeyboardWordIsReadOnlyKey :
    trunc15 (atAddress 0x6000#16 .fault).a = 0x6000#15 ∧ trunc15 (atAddress 0xE000#16 .fault).a = 0x6000#15 := by decide

/-- `MD=M+1` (0xFDD8) at both ends of RAM and of Screen. -/
theorem witness_WriteIsSeenByTheNextCycleOnly :
    (0xFDD8#16 : Word).getLsbD 15 = true ∧ (0xFDD8#16 : Word).getLsbD 3 = true ∧ (0xFDD8#16 : Word).getLsbD 12 = true ∧
    [0x0000#16, 0x3FFF#16, 0x4000#16, 0x5FFF#16].all (fun a =>
      decide ((trunc15 (atAddress a .fault).a).toNat < 0x6000) &&
      after (exec (decode 0xFDD8#16) (atAddress a .fault)) (fun _ => true)) = true := by decide

/-- `M=D` (0xE308) at the ends of each storage, `D=A` (0xEC10) and `@7`, which store nothing. -/
theorem witness_StoragesAreDisjoint :
    [0x0000#16, 0x3FFF#16, 0x4000#16, 0x5FFF#16, 0x6000#16].all (fun a =>
      after (exec (decode 0xE308#16) (atAddress a .fault)) (fun _ => true)) = true ∧
    (0x3FFF#15 : Addr).toNat < 0x4000 ∧ 0x4000 ≤ (0x4000#15 : Addr).toNat ∧ 0x6000 ≤ (0x6000#15 : Addr).toNat ∧
    (0x0007#16 : Word).getLsbD 15 = false ∧ (0xEC10#16 : Word).getLsbD 3 = false ∧
    after (exec (decode 0xEC10#16) (atAddress 0x7FFF#16 .fault)) (fun _ => true) = true := by decide

/-- `MD=M+1;JMP` with reset = 1 and with reset = 0: both complete at 0x6000, both fault at 0x6001. -/
theorem witness_ResetInputOverridesOnlyThePc :
    [true, false].all (fun r =>
      after (exec (decode 0xFDDF#16) { atAddress 0x6000#16 .fault with input := ⟨65#16, r⟩ }) (fun _ => true) &&
      decide (faultOf (exec (decode 0xFDDF#16) { atAddress 0x6001#16 .fault with input := ⟨65#16, r⟩ }) =
        some (.unmappedAccess 0x6001#15))) = true := by decide

theorem witness_ResetVectorIsRomAddressZero :
    let s := inReset { atAddress 0#16 .fault with pc := 1#15 }
    s.stopped = none ∧ s.rom[0]? = some 0xE307#16 ∧ s.input.reset = true ∧
    after (exec (decode 0xE307#16) s) (fun _ => true) = true := by decide

theorem witness_EnvironmentLinesMoveOn :
    let s := { atAddress 0#16 .fault with upcoming := [⟨65#16, true⟩] }
    s.upcoming = ⟨65#16, true⟩ :: [] ∧ after (exec (decode 0x0007#16) s) (fun _ => true) = true ∧
    (atAddress 0#16 .fault).upcoming = [] ∧
    after (exec (decode 0x0007#16) (atAddress 0#16 .fault)) (fun _ => true) = true := by decide

/-- `@7`, which is no C-instruction, and `D` (0xE300) and `M=D;JLT` (0xE30C) with D = 1, which do not jump. -/
theorem witness_PcWrapsAtTheTop :
    let s := { atAddress 0x3FFF#16 .fault with pc := 0x7FFF#15 }
    s.pc = 0x7FFF#15 ∧ s.input.reset = false ∧ (0x0007#16 : Word).getLsbD 15 = false ∧
    UsesM 0xE30C#16 ∧ MRuns s ∧ ¬ JumpHolds (jumpOf 0xE300#16) (resultOf 0xE300#16 s) ∧
    ¬ JumpHolds (jumpOf 0xE30C#16) (resultOf 0xE30C#16 s) := by decide

/-- `AM=D;JGT` (0xE329) with D = 1 at A = 0xE000, the keyboard's address with bit 15 set. -/
theorem witness_JumpDropsBit15OfA :
    (0xE329#16 : Word).getLsbD 15 = true ∧ (atAddress 0xE000#16 .fault).input.reset = false ∧
    UsesM 0xE329#16 ∧ MRuns (atAddress 0xE000#16 .fault) ∧
    JumpHolds (jumpOf 0xE329#16) (resultOf 0xE329#16 (atAddress 0xE000#16 .fault)) := by decide

/-- `AMD=M+1;JMP` (0xFDFF): every clause's bits at once. -/
theorem witness_CommitIsSimultaneous :
    (0xFDFF#16 : Word).getLsbD 15 = true ∧ (0xFDFF#16 : Word).getLsbD 5 = true ∧ (0xFDFF#16 : Word).getLsbD 3 = true ∧
    (0xFDFF#16 : Word).getLsbD 12 = true ∧ (0xFDFF#16 : Word).getLsbD 4 = true ∧
    (atAddress 0x3FFF#16 .fault).input.reset = false ∧
    JumpHolds (jumpOf 0xFDFF#16) (resultOf 0xFDFF#16 (atAddress 0x3FFF#16 .fault)) ∧
    after (exec (decode 0xFDFF#16) (atAddress 0x3FFF#16 .fault)) (fun _ => true) = true := by decide

/-- `AMD=M+1` (0xFDF8) changes A, D and the last RAM word, or the first Screen word. -/
theorem witness_OnlyNamedDestinationsChange :
    after (exec (decode 0xFDF8#16) { atAddress 0x3FFF#16 .fault with d := 5#16 }) (fun t =>
      decide (t.d ≠ 5#16 ∧ t.a ≠ 0x3FFF#16 ∧ t.ram.read 0x3FFF ≠ (atAddress 0x3FFF#16 .fault).ram.read 0x3FFF)) = true ∧
    after (exec (decode 0xFDF8#16) (atAddress 0x4000#16 .fault)) (fun t =>
      decide (t.screen.read 0 ≠ (atAddress 0x4000#16 .fault).screen.read 0)) = true ∧
    after (exec (decode 0x0007#16) (atAddress 0x4000#16 .fault)) (fun t => decide (t.a ≠ 0x4000#16)) = true := by decide

theorem witness_IgnoredBitsTakeNoPart :
    (0xFDF8#16 : Word).getLsbD 15 = true ∧ (0x9DF8#16 : Word).getLsbD 15 = true ∧
    (0xFDF8#16 : Word).extractLsb' 0 13 = (0x9DF8#16 : Word).extractLsb' 0 13 := by decide

/-- An A-instruction; `D=A` at the keyboard; `D=M` at both ends of RAM and of Screen; and both outcomes. -/
theorem witness_KeyIsReadOnlyThroughM :
    (0x0007#16 : Word).getLsbD 15 = false ∧ (0xEC10#16 : Word).getLsbD 12 = false ∧
    [0x0000#16, 0x3FFF#16, 0x4000#16, 0x5FFF#16].all (fun a => decide ((trunc15 a).toNat < 0x6000) &&
      after (exec (decode 0xFC10#16) { atAddress a .fault with input := ⟨65#16, false⟩ }) (fun _ => true)) = true ∧
    after (exec (decode 0xEC10#16) { atAddress 0x6000#16 .fault with input := ⟨66#16, true⟩ }) (fun _ => true) = true ∧
    (0xE308#16 : Word).getLsbD 12 = false ∧
    faultOf (exec (decode 0xE308#16) { atAddress 0x6001#16 .fault with input := ⟨66#16, false⟩ }) =
      some (.unmappedAccess 0x6001#15) := by decide

theorem witness_LoadProgramReplacesOnlyTheImage :
    ([] : List Word).length ≤ 32768 ∧ (List.replicate 32768 0xE300#16).length ≤ 32768 ∧
    32768 < (List.replicate 32769 0xE300#16).length := by
  rw [List.length_replicate, List.length_replicate]; decide

/-- Each clause of PeekAndPokeReachOnlyRamAndScreen at the ends of its range, and RendererReadHasNoEffect's. -/
theorem witness_PeekAndPokeReachOnlyRamAndScreen :
    (hostOp (.peek 0x3FFF) { State.new .fault with ram := [(0x3FFF, 7#16)] }).1 = .word 7#16 ∧
    (hostOp (.peek 0x4000) { State.new .fault with screen := [(0, 8#16)] }).1 = .word 8#16 ∧
    (hostOp (.peek 0x5FFF) { State.new .fault with screen := [(0x1FFF, 9#16)] }).1 = .word 9#16 ∧
    (hostOp (.peek 0x6000) (State.new .fault)).1 = .refused (.outOfRange 0x6000) ∧
    (hostOp (.peek 0x8000) (State.new .fault)).1 = .refused (.outOfRange 0x8000) := by decide

theorem witness_RendererReadHasNoEffect :
    (hostOp (.readScreen 8191) { State.new .fault with screen := [(8191, 9#16)] }).1 = .word 9#16 ∧ 8191 < 8192 := by decide

theorem witness_HostStepRunsOneCycleWithItsInputs :
    (atAddress 0#16 .fault).stopped = none ∧
    (atAddress 0#16 .fault).rom[(atAddress 0#16 .fault).pc.toNat]? = some 0xE307#16 ∧
    (hostOp (.step ⟨65#16, true⟩) (atAddress 0#16 .fault)).1 = .done ∧
    { atAddress 0x6001#16 .fault with pc := 0#15, rom := [0xFC10#16] }.rom[0]? = some 0xFC10#16 ∧
    (hostOp (.step ⟨65#16, false⟩) { atAddress 0x6001#16 .fault with rom := [0xFC10#16] }).1 =
      .faulted (.unmappedAccess 0x6001#15) := by decide

theorem witness_DecodeInvertsEncode : (Instr.atValue 0x7FFF#15).wf = true ∧
    (Instr.c_a1_c111111 2#2 ⟨true, true, true⟩ ⟨true, true, true⟩).wf = true := by decide

/-- A full canonical state steps: `AMD=M+1` at the last RAM word, from and to canonical memory. -/
theorem witness_StepKeepsCanonicalMemoryAndImage :
    let s := { atAddress 0x3FFF#16 .fault with ram := [(0, 1#16), (0x3FFF, 0xFFFF#16)], screen := [(8191, 2#16)],
                                               rom := [0xFDF8#16] }
    s.wf = true ∧ after (step s) (fun t => decide (t.ram = [(0, 1#16)])) = true := by decide

/-- A state that no run from State.new reaches (a recorded fault, inputs upcoming), and one operation of each kind. -/
theorem witness_HostRunsKeepInvariant :
    let s := { atAddress 0x3FFF#16 .fault with ram := [(0x3FFF, 7#16)], screen := [(8191, 2#16)],
                                               upcoming := [⟨65#16, true⟩], stopped := some (.unmappedAccess 0x6001#15) }
    s.wf = true ∧
    [HostOp.loadProgram [0xE300#16], .step ⟨65#16, false⟩, .reset, .peek 0x3FFF, .poke 0x3FFF 0#16, .keyboard 66#16,
      .readScreen 8191].all (fun op => (hostOp op s).2.wf) = true ∧
    (hostOp (.poke 0x3FFF 0#16) s).2.ram = [] := by decide

/-- Key 66 over a present key 65 and two upcoming keys, the second with reset: now and after two cycles of `@7`. -/
theorem witness_KeyboardOperationSetsTheKey :
    let s := { State.new .fault with rom := [0x0007#16, 0x0007#16], input := ⟨65#16, false⟩,
                                     upcoming := [⟨0#16, false⟩, ⟨67#16, true⟩] }
    let t := (hostOp (.keyboard 66#16) s).2
    t.input = ⟨66#16, false⟩ ∧ t.upcoming = [⟨66#16, false⟩, ⟨66#16, true⟩] ∧
    after (Host.Core.run Sys2Proof.core 0 t) (fun u => u.input.key == 66#16) = true ∧
    after (Host.Core.run Sys2Proof.core 2 t) (fun u => u.input.key == 66#16 && u.input.reset && u.pc == 2#15) = true := by
  decide

/-- `@7` stores to no address: one cycle of it, at the address 0x5FFF. -/
theorem witness_ReadReturnsTheLastWrite_kept :
    let s := { State.new .fault with rom := [0x0007#16] }
    (0x5FFF#15 : Addr).toNat < 0x6000 ∧ (∃ t, Host.Core.run Sys2Proof.core 1 s = .next t) ∧
    ∀ m u, m < 1 → Host.Core.run Sys2Proof.core m s = .next u → ¬ CycleStoresTo 0x5FFF#15 u := by
  refine ⟨by decide, ⟨_, rfl⟩, fun m u hm hu => ?_⟩
  obtain rfl : m = 0 := by omega
  obtain rfl : _ = u := Host.Outcome.next.inj hu
  rintro ⟨w, hw, h15, -⟩
  obtain rfl : 0x0007#16 = w := Option.some.inj hw
  exact absurd h15 (by decide)

/-- `M=D` (0xE308) at A = 0x5FFF stores there, and the `@7` after it does not. -/
theorem witness_ReadReturnsTheLastWrite_stored :
    let s := { State.new .fault with a := 0x5FFF#16, d := 9#16, rom := [0xE308#16, 0x0007#16] }
    (0x5FFF#15 : Addr).toNat < 0x6000 ∧ (∃ t, Host.Core.run Sys2Proof.core (1 + 1) s = .next t) ∧
    s.rom[s.pc.toNat]? = some 0xE308#16 ∧ CycleStoresTo 0x5FFF#15 s ∧
    ∀ m u, 0 < m → m < 1 + 1 → Host.Core.run Sys2Proof.core m s = .next u → ¬ CycleStoresTo 0x5FFF#15 u := by
  refine ⟨by decide, ⟨_, rfl⟩, by decide, ⟨0xE308#16, by decide⟩, fun m u hm hm' hu => ?_⟩
  obtain rfl : m = 1 := by omega
  obtain rfl : _ = u := Host.Outcome.next.inj hu
  rintro ⟨w, hw, h15, -⟩
  obtain rfl : 0x0007#16 = w := Option.some.inj hw
  exact absurd h15 (by decide)


end Sys2Proof.Tests
end

/-! The statements of 20_memory.md, and before them what they need beside the laws: the outcome of a fetched and decoded
word, what it stores, and the controller's reads by range (R50 to R71). -/

namespace Sys2Proof.Machine

/-! ### The fetch (R71) -/

theorem step_of_fetch {s : State} {w : Word} (hs : s.stopped = none) (hw : s.rom[s.pc.toNat]? = some w) :
    step s = exec (decode w) s := by
  rcases step_cases s with ⟨f, hf, -⟩ | ⟨-, hlen, -⟩ | ⟨w', -, hw', e⟩
  · rw [hs] at hf; cases hf
  · rw [List.getElem?_eq_none hlen] at hw; cases hw
  · rw [hw] at hw'; cases hw'; exact e

theorem step_outside_image {s : State} (hs : s.stopped = none) (hlen : s.rom.length ≤ s.pc.toNat) :
    step s = .fault (.fetchOutsideImage s.pc) := by
  rcases step_cases s with ⟨f, hf, -⟩ | ⟨-, -, e⟩ | ⟨w, -, hw, -⟩
  · rw [hs] at hf; cases hf
  · exact e
  · rw [List.getElem?_eq_none hlen] at hw; cases hw

theorem loadProgram_state {words : List Word} (h : words.length ≤ 32768) (s : State) :
    (loadProgram words s).2 = { s with rom := words } := by
  rcases loadProgram_cases words s with ⟨-, e⟩ | ⟨hlong, -⟩
  · rw [e]
  · omega

/-! ### The outcome of a decoded word -/

/-- A C-instruction that completes does so with M running where it is used, and with its whole effect. -/
theorem exec_decode_effect {w : Word} {s t : State} (h15 : w.getLsbD 15 = true) (h : exec (decode w) s = .next t) :
    (UsesM w → MRuns s) ∧ ComputeEffect (destOf w) (jumpOf w) (resultOf w s) s t := by
  rcases exec_word_cases w s with ⟨h15', -⟩ | ⟨-, -, -, e⟩ | ⟨-, hr, o, e, -, heff⟩
  · rw [h15] at h15'; cases h15'
  · rw [e] at h; cases h
  · rw [e] at h; cases h; exact ⟨hr, heff⟩

/-- R58: the one fault an executed word can raise, and exactly where. -/
theorem exec_decode_fault_iff (w : Word) (s : State) (f : Fault) :
    exec (decode w) s = .fault f ↔
      w.getLsbD 15 = true ∧ UsesM w ∧ ¬ MRuns s ∧ f = .unmappedAccess (trunc15 s.a) := by
  rcases exec_word_cases w s with ⟨h15, e⟩ | ⟨h15, hu, hm, e⟩ | ⟨-, hr, o, e, -⟩ <;> rw [e]
  · exact ⟨fun h => (by cases h), fun ⟨h15', _⟩ => absurd (h15.symm.trans h15') Bool.false_ne_true⟩
  · constructor
    · intro h; cases h; exact ⟨h15, hu, hm, rfl⟩
    · rintro ⟨-, -, -, rfl⟩; rfl
  · exact ⟨fun h => (by cases h), fun ⟨_, hu, hm, _⟩ => absurd (hr hu) hm⟩

/-- No word faults where M runs, and none is refused. -/
theorem exec_decode_completes (w : Word) {s : State} (h : MRuns s) : ∃ t, exec (decode w) s = .next t := by
  rcases exec_word_cases w s with ⟨-, e⟩ | ⟨-, -, hm, -⟩ | ⟨-, -, o, e, -⟩
  · exact ⟨_, e⟩
  · exact absurd h hm
  · exact ⟨_, e⟩

theorem exec_decode_frame {w : Word} {s t : State} (h : exec (decode w) s = .next t) : CycleFrame s t := by
  obtain ⟨o, rfl⟩ := exec_decode_next h
  exact commit_frame s o

/-! ### What a decoded word stores (R53, R55 to R58) -/

/-- A store outside RAM and Screen leaves every word alone (R57, R58). -/
theorem StoresAt.storesNothing {out : Word} {s t : State} (h : StoresAt out s t)
    (ha : 0x6000 ≤ (trunc15 s.a).toNat) : StoresNothing s t where
  ram k := by rw [h.ram, if_neg]; omega
  screen k := by rw [h.screen, if_neg]; omega

theorem ComputeEffect.storesNothing {d : Dest} {j : Jump} {out : Word} {s t : State} (h : ComputeEffect d j out s t)
    (ha : 0x6000 ≤ (trunc15 s.a).toNat) : StoresNothing s t := by
  cases hd : d.toM
  · exact h.noStore hd
  · exact (h.stores hd).storesNothing ha

/-- A word with dest M stores its result at the pre-commit A. -/
theorem exec_decode_storesAt {w : Word} {s t : State} (h15 : w.getLsbD 15 = true) (h3 : w.getLsbD 3 = true)
    (h : exec (decode w) s = .next t) : StoresAt (resultOf w s) s t :=
  (exec_decode_effect h15 h).2.stores h3

/-- An A-instruction, or a C-instruction without dest M, stores nothing. -/
theorem exec_decode_storesNothing_of_no_dest {w : Word} {s t : State}
    (hw : w.getLsbD 15 = false ∨ w.getLsbD 3 = false) (h : exec (decode w) s = .next t) : StoresNothing s t := by
  rcases exec_word_cases w s with ⟨-, e⟩ | ⟨-, -, -, e⟩ | ⟨h15, -, o, e, -, heff⟩ <;> rw [e] at h <;> cases h
  · exact commit_storesNothing s rfl
  · exact heff.noStore (hw.resolve_left (by simp [h15]))

/-- Every completed word stores at the pre-commit A or nowhere. -/
theorem exec_decode_stores {w : Word} {s t : State} (h : exec (decode w) s = .next t) :
    StoresNothing s t ∨ ∃ out, StoresAt out s t := by
  by_cases hw : w.getLsbD 15 = false ∨ w.getLsbD 3 = false
  · exact .inl (exec_decode_storesNothing_of_no_dest hw h)
  · simp only [not_or, Bool.not_eq_false] at hw
    exact .inr ⟨_, exec_decode_storesAt hw.1 hw.2 h⟩

theorem exec_decode_storesNothing_of_outside {w : Word} {s t : State} (ha : 0x6000 ≤ (trunc15 s.a).toNat)
    (h : exec (decode w) s = .next t) : StoresNothing s t := by
  rcases exec_decode_stores h with hn | ⟨out, ho⟩
  · exact hn
  · exact ho.storesNothing ha

/-! ### The controller's reads by range (R55 to R60) -/

theorem memRead_ram (s : State) {addr : Addr} (h : addr.toNat < 0x4000) :
    memRead s addr = s.ram.read addr.toNat := by
  unfold memRead; rw [region_by_range, if_pos h]

theorem memRead_screen (s : State) {addr : Addr} (h : 0x4000 ≤ addr.toNat) (h' : addr.toNat < 0x6000) :
    memRead s addr = s.screen.read (addr.toNat - 0x4000) := by
  unfold memRead; rw [region_by_range, if_neg (by omega), if_pos h']

theorem memRead_of_storesNothing {s t : State} (h : StoresNothing s t) {addr : Addr} (ha : addr.toNat < 0x6000) :
    memRead t addr = memRead s addr := by
  by_cases hr : addr.toNat < 0x4000
  · rw [memRead_ram t hr, memRead_ram s hr, h.ram]
  · have hs : 0x4000 ≤ addr.toNat := by omega
    rw [memRead_screen t hs ha, memRead_screen s hs ha, h.screen]

theorem memRead_of_storesAt {out : Word} {s t : State} (h : StoresAt out s t) (ha : (trunc15 s.a).toNat < 0x6000) :
    memRead t (trunc15 s.a) = out := by
  by_cases hr : (trunc15 s.a).toNat < 0x4000
  · rw [memRead_ram t hr, h.ram, if_pos ⟨hr, rfl⟩]
  · have hs : 0x4000 ≤ (trunc15 s.a).toNat := by omega
    rw [memRead_screen t hs ha, h.screen, if_pos ⟨hs, ha, rfl⟩]

/-! ### The word M names, and the selection `M` (R57, R58, R138) -/

theorem mRuns_of_mapped {s : State} (h : (trunc15 s.a).toNat ≤ 0x6000) : MRuns s :=
  .inr fun hu => by have := hu.1; omega

theorem wordAtM_eq_key {s : State} (h : 0x6000 ≤ (trunc15 s.a).toNat) : wordAtM s = s.input.key := by
  unfold wordAtM
  rw [if_neg (by omega), if_neg (by omega)]

/-- The pattern 110000 passes the second operand through (R138). -/
theorem aluOut_second_operand (x y : Word) : aluOut x y (aluControl 0b110000#6) = y := by
  have hstages : aluOut x y (aluControl 0b110000#6) = ~~~0#16 &&& y := rfl
  rw [hstages, BitVec.not_zero, BitVec.allOnes_and]

theorem exec_compM_completes (x : BitVec 2) (d : Dest) (j : Jump) {s : State} (h : MRuns s) :
    ∃ t, exec (.compM x d j) s = .next t ∧ ComputeEffect d j (wordAtM s) s t := by
  obtain ⟨t, e, heff⟩ := executeCompute_completes true (aluControl 0b110000#6) d j fun _ => h
  have hout : aluOut s.d (operandY s true) (aluControl 0b110000#6) = wordAtM s :=
    (aluOut_second_operand ..).trans (memRead_eq_wordAtM h)
  rw [hout] at heff
  exact ⟨t, e, heff⟩

/-- At 0x6000 and above, where it runs, `M` is the key and nothing is stored (R57, R58). -/
theorem exec_compM_reads_key (x : BitVec 2) (d : Dest) (j : Jump) {s : State} (h : MRuns s)
    (ha : 0x6000 ≤ (trunc15 s.a).toNat) :
    ∃ t, exec (.compM x d j) s = .next t ∧ StoresNothing s t ∧
      t.a = (if d.toA then s.input.key else s.a) ∧ t.d = (if d.toD then s.input.key else s.d) := by
  obtain ⟨t, e, heff⟩ := exec_compM_completes x d j h
  rw [wordAtM_eq_key ha] at heff
  exact ⟨t, e, heff.storesNothing ha, heff.regA, heff.regD⟩

/-! ### The statements of 20_memory.md -/

/-- Settles O6: the image loadProgram supplies decides between the two outcomes of the fetch (R71). -/
theorem fetchInsideAndOutsideTheImage : Obligations.FetchInsideAndOutsideTheImage := by
  intro s words hlen hs
  rw [loadProgram_state hlen]
  exact ⟨fun w hw => step_of_fetch hs hw, fun hout => step_outside_image hs hout⟩

/-- Settles O25: the fault is the one place where an executed word stops; under aliasKeyboard M runs everywhere. -/
theorem unmappedAccessUnderEachPolicy : Obligations.UnmappedAccessUnderEachPolicy := by
  refine ⟨fun w s f hp => ?_, fun x d j s hp hu => ?_, fun w s hp => ?_⟩
  · rw [exec_decode_fault_iff, not_mRuns_iff]
    simp only [hp, and_true]
  · exact exec_compM_reads_key x d j (.inl hp) (by omega)
  · obtain ⟨t, e⟩ := exec_decode_completes w (s := s) (.inl hp)
    exact ⟨t, e, fun hu => exec_decode_storesNothing_of_outside (by omega) e⟩

/-- Settles O26, from the controller's reads and gated writes by range. -/
theorem memoryControllerFollowsTheAddressMap : Obligations.MemoryControllerFollowsTheAddressMap := fun s addr =>
  ⟨memRead_ram s, memRead_screen s, fun v k =>
    ⟨memWrite_ram_read s addr v k, memWrite_screen_read s addr v k, memWrite_off s addr v⟩⟩

/-- Settles O27: at 0x6000 M runs under either policy, and no storage has a word there. -/
theorem keyboardWordIsReadOnlyKey : Obligations.KeyboardWordIsReadOnlyKey := by
  intro x d j s hk
  have ha : (trunc15 s.a).toNat = 0x6000 := by rw [hk]; rfl
  have hm : MRuns s := mRuns_of_mapped ha.le
  constructor
  · obtain ⟨t, e, -, hA, hD⟩ := exec_compM_reads_key x d j hm ha.ge
    exact ⟨t, e, hD, hA⟩
  · intro w
    obtain ⟨t, e⟩ := exec_decode_completes w hm
    exact ⟨t, e, exec_decode_storesNothing_of_outside ha.ge e, exec_decode_frame e⟩

/-- Settles O28: the store is visible in the next state, while the result took M's word of the present one (R60). -/
theorem writeIsSeenByTheNextCycleOnly : Obligations.WriteIsSeenByTheNextCycleOnly := by
  intro w s t h15 h3 ha h
  refine ⟨memRead_of_storesAt (exec_decode_storesAt h15 h3 h) ha, fun h12 => ?_⟩
  rw [memRead_eq_wordAtM (mRuns_of_mapped ha.le), resultOf, if_pos h12]

/-- Settles O29: a cycle stores nowhere or at the pre-commit A, which lies in one storage only (R62). -/
theorem storagesAreDisjoint : Obligations.StoragesAreDisjoint := by
  intro w s t h
  refine ⟨fun ha k => ?_, fun ha k => ?_, fun ha => (exec_decode_storesNothing_of_outside ha h).screen,
    fun addr v => memWrite_input s true addr v, fun hw addr ha => ?_⟩
  · rcases exec_decode_stores h with hn | ⟨out, ho⟩
    · exact hn.screen k
    · rw [ho.screen, if_neg]; omega
  · rcases exec_decode_stores h with hn | ⟨out, ho⟩
    · exact hn.ram k
    · rw [ho.ram, if_neg]; omega
  · exact memRead_of_storesNothing (exec_decode_storesNothing_of_no_dest hw h) ha

end Sys2Proof.Machine

/-! The statement of 30_encoding.md: a C-instruction's outcome is read from bits 12 to 0 of its word (R85). -/

namespace Sys2Proof.Machine

/-- Words whose bits 12 to 0 agree have the same bit 12 and the same control, dest and jump fields (R82). -/
theorem fields_eq_of_lowBits {w w' : Word} (h : ∀ i < 13, w.getLsbD i = w'.getLsbD i) :
    w.getLsbD 12 = w'.getLsbD 12 ∧ aluControlOf w = aluControlOf w' ∧ destOf w = destOf w' ∧ jumpOf w = jumpOf w' := by
  refine ⟨h 12 (by decide), ?_, ?_, ?_⟩
  · simp only [aluControlOf, h, Nat.reduceLT]
  · simp only [destOf, h, Nat.reduceLT]
  · simp only [jumpOf, h, Nat.reduceLT]

/-- Settles O37: the outcome of a C-instruction's word is that of its fields, and each field lies in bits 12 to 0. -/
theorem ignoredBitsTakeNoPart : Obligations.IgnoredBitsTakeNoPart := by
  intro w w' s h15 h15' hlow
  have hbits : ∀ i < 13, w.getLsbD i = w'.getLsbD i := fun i hi => by
    simpa [BitVec.getLsbD_extractLsb', hi] using congrArg (·.getLsbD i) hlow
  obtain ⟨ha, hc, hd, hj⟩ := fields_eq_of_lowBits hbits
  rw [exec_decode, exec_decode, if_pos h15, if_pos h15', ha, hc, hd, hj]

end Sys2Proof.Machine

/-! The statements of 40_alu.md on the flags and on the 28 named selections: the ALU's four stages for the control bits
of a selection, one rule that covers all 128 selections (R94, R110 to R114, R181), and the closed forms of the words the
named ones compute (R120 to R147). -/

namespace Sys2Proof.Machine

/-! ### A comp selection: its control bits and its result in stages (R110 to R114) -/

/-- The six ALU controls of a selection `a zx nx zy ny f no`, bits 12 to 6 of a C-instruction's word (R82). -/
def selectionControl (ac : BitVec 7) : AluControl := aluControl (ac.setWidth 6)

/-- An operand after stage 1 or 2, as the rules' pseudocode writes it for each pair of control bits. -/
def preparedOperand (zero negate : Bool) (v : Word) : Word :=
  match zero, negate with
  | false, false => v
  | false, true => ~~~v
  | true, false => 0x0000#16
  | true, true => 0xFFFF#16

theorem aluPrepare_eq_preparedOperand (zero negate : Bool) (v : Word) :
    aluPrepare zero negate v = preparedOperand zero negate v := by
  cases zero
  · cases negate <;> rfl
  · cases negate
    · rfl
    · exact BitVec.not_zero

/-- The result of a selection in a state: the stages on D and on A or the word M names, by bit `a` (R181). -/
def selectionOut (ac : BitVec 7) (s : State) : Word :=
  let c := selectionControl ac
  aluFinish c.no (aluCombine c.f (preparedOperand c.zx c.nx s.d)
    (preparedOperand c.zy c.ny (if ac.getLsbD 6 then wordAtM s else s.a)))

theorem aluOut_selectionControl (ac : BitVec 7) (s : State) :
    aluOut s.d (if ac.getLsbD 6 then wordAtM s else s.a) (selectionControl ac) = selectionOut ac s := by
  simp only [aluOut, aluPrepare_eq_preparedOperand, selectionOut]

/-! ### What the rule of a selection says, for all 128 of them -/

theorem selection_of_bits {w : Word} {ac : BitVec 7} (h : w.extractLsb' 6 7 = ac) :
    w.getLsbD 12 = ac.getLsbD 6 ∧ aluControlOf w = selectionControl ac := by
  subst h
  simp [aluControlOf, selectionControl, aluControl]

theorem operandY_eq {s : State} {a : Bool} (h : a = true → MRuns s) :
    operandY s a = if a then wordAtM s else s.a := by
  cases a
  · rfl
  · exact memRead_eq_wordAtM (h rfl)

/-- The instruction a selection names is the meaning of its words, completes with the result of the selection's stages
where M runs or is not used, and faults elsewhere. -/
theorem compRule_selection (ac : BitVec 7) :
    CompRule (fun x d j => computeInstr x (ac.getLsbD 6) (selectionControl ac) d j) ac (ac.getLsbD 6)
      (selectionOut ac) := by
  refine ⟨fun w h15 hac => ?_, fun x d j s => ?_⟩
  · obtain ⟨ha, hc⟩ := selection_of_bits hac
    rw [decode, if_pos h15, ha, hc]
    rfl
  · rw [exec_computeInstr]
    constructor
    · intro hr
      obtain ⟨t, e, heff⟩ := executeCompute_completes (ac.getLsbD 6) (selectionControl ac) d j hr
      rw [operandY_eq fun hu => hr (.inl hu), aluOut_selectionControl] at heff
      exact ⟨t, e, heff⟩
    · intro hu hm
      rcases executeCompute_cases (ac.getLsbD 6) (selectionControl ac) d j s with ⟨e, -⟩ | ⟨-, hn⟩
      · exact e
      · exact absurd ⟨hu, not_mRuns_iff.mp hm⟩ hn

/-! ### The closed forms (R120 to R147): 0xFFFF is all ones for AND and -1 for addition -/

section
variable (x y : Word)

theorem and_ones : x &&& 0xFFFF#16 = x := BitVec.and_allOnes
theorem ones_and : 0xFFFF#16 &&& x = x := BitVec.allOnes_and
theorem add_ones : x + 0xFFFF#16 = x - 1#16 := (BitVec.sub_eq_add_neg x 1#16).symm
theorem ones_add : 0xFFFF#16 + x = x - 1#16 := by rw [BitVec.add_comm, add_ones]

theorem not_not_add : ~~~(~~~x + y) = x - y := by simp only [not_eq_neg_sub_one]; ring
theorem not_add_not : ~~~(x + ~~~y) = -x + y := by simp only [not_eq_neg_sub_one]; ring

theorem not_not_and_not : ~~~(~~~x &&& ~~~y) = x ||| y := by
  rw [BitVec.not_and, BitVec.not_not, BitVec.not_not]

theorem not_sub_one : ~~~(x - 1#16) = -x := by rw [not_eq_neg_sub_one]; ring
theorem not_not_sub_one : ~~~(~~~x - 1#16) = x + 1#16 := by rw [not_sub_one, not_eq_neg_sub_one]; ring

theorem not_add_ones : ~~~(x + 0xFFFF#16) = -x := by rw [add_ones, not_sub_one]
theorem not_ones_add : ~~~(0xFFFF#16 + x) = -x := by rw [ones_add, not_sub_one]
theorem not_not_add_ones : ~~~(~~~x + 0xFFFF#16) = x + 1#16 := by rw [add_ones, not_not_sub_one]
theorem not_ones_add_not : ~~~(0xFFFF#16 + ~~~x) = x + 1#16 := by rw [ones_add, not_not_sub_one]

end

/-! ### The statements -/

/-- Settles O11: both flags are functions of stage 4's output alone. -/
theorem aluFlagsReadTheFinalOutput : Obligations.AluFlagsReadTheFinalOutput := by
  intro x y c
  rw [alu_out, alu_zr, alu_ng]
  exact ⟨zr_iff _, Iff.rfl⟩

/-- Settles O15: stages 1 and 2 make both operands constants, so each result is a closed word. -/
theorem constantSelections : Obligations.ConstantSelections :=
  ⟨compRule_selection _, rfl, compRule_selection _, rfl, compRule_selection _, rfl⟩

/-- Settles O16: the operand that the selection discards is all ones, which AND drops and addition reads as -1. -/
theorem registerUnarySelections : Obligations.RegisterUnarySelections :=
  ⟨compRule_selection _, fun s => and_ones s.d,
    compRule_selection _, fun s => ones_and s.a,
    compRule_selection _, fun s => congrArg (~~~·) (and_ones s.d),
    compRule_selection _, fun s => congrArg (~~~·) (ones_and s.a),
    compRule_selection _, fun s => not_add_ones s.d,
    compRule_selection _, fun s => not_ones_add s.a⟩

/-- Settles O17: a step is the addition of -1, for +1 between two complements. -/
theorem registerStepSelections : Obligations.RegisterStepSelections :=
  ⟨compRule_selection _, fun s => not_not_add_ones s.d,
    compRule_selection _, fun s => not_ones_add_not s.a,
    compRule_selection _, fun s => add_ones s.d,
    compRule_selection _, fun s => ones_add s.a⟩

/-- Settles O18: the ALU subtracts by complementing before and after an addition, and ORs likewise by an AND. -/
theorem registerBinarySelections : Obligations.RegisterBinarySelections :=
  ⟨compRule_selection _,
    compRule_selection _, fun s => not_not_add s.d s.a,
    compRule_selection _, fun s => not_add_not s.d s.a,
    compRule_selection _,
    compRule_selection _, fun s => not_not_and_not s.d s.a⟩

/-- Settles O19: as O16 and O17, on the word M names where M runs. -/
theorem memoryUnarySelections : Obligations.MemoryUnarySelections :=
  ⟨compRule_selection _, fun s => ones_and (wordAtM s),
    compRule_selection _, fun s => congrArg (~~~·) (ones_and (wordAtM s)),
    compRule_selection _, fun s => not_ones_add (wordAtM s),
    compRule_selection _, fun s => not_ones_add_not (wordAtM s),
    compRule_selection _, fun s => ones_add (wordAtM s)⟩

/-- Settles O20: as O18, on D and the word M names where M runs. -/
theorem memoryBinarySelections : Obligations.MemoryBinarySelections :=
  ⟨compRule_selection _,
    compRule_selection _, fun s => not_not_add s.d (wordAtM s),
    compRule_selection _, fun s => not_add_not s.d (wordAtM s),
    compRule_selection _,
    compRule_selection _, fun s => not_not_and_not s.d (wordAtM s)⟩

end Sys2Proof.Machine

/-! The statements of 41_cpu_cycle.md: how a cycle ends, and what its commit takes from the pre-commit values (R153 to
R159). -/

namespace Sys2Proof.Machine

/-! ### The two formats that complete (R153) -/

theorem exec_decode_address {w : Word} (s : State) (h15 : w.getLsbD 15 = false) :
    exec (decode w) s = .next (commit s (addressCycle s (w.setWidth 15))) := by
  rw [exec_decode, h15]; rfl

/-- A C-instruction completes, with its whole effect, where M runs or is not used. -/
theorem exec_decode_compute_completes {w : Word} {s : State} (h15 : w.getLsbD 15 = true) (hr : UsesM w → MRuns s) :
    ∃ t, exec (decode w) s = .next t ∧ ComputeEffect (destOf w) (jumpOf w) (resultOf w s) s t := by
  rcases exec_word_cases w s with ⟨h15', -⟩ | ⟨-, hu, hm, -⟩ | ⟨-, -, o, e, -, heff⟩
  · rw [h15] at h15'; cases h15'
  · exact absurd (hr hu) hm
  · exact ⟨_, e, heff⟩

/-! ### The next PC (R151, R157) -/

/-- With reset low, an instruction that takes no jump completes to PC + 1 modulo 2^15, whichever its format. -/
theorem exec_decode_pc_of_no_jump {w : Word} {s : State} (hreset : s.input.reset = false)
    (hr : w.getLsbD 15 = true → UsesM w → MRuns s)
    (hj : w.getLsbD 15 = true → ¬ JumpHolds (jumpOf w) (resultOf w s)) :
    ∃ t, exec (decode w) s = .next t ∧ t.pc = s.pc + 1#15 := by
  cases h15 : w.getLsbD 15
  · refine ⟨_, exec_decode_address s h15, ?_⟩
    rw [commit_pc, hreset]; rfl
  · obtain ⟨t, e, heff⟩ := exec_decode_compute_completes h15 (hr h15)
    refine ⟨t, e, BitVec.eq_of_toNat_eq ?_⟩
    rw [heff.pcNext hreset (hj h15), BitVec.toNat_add]; rfl

/-! ### The statements -/

/-- Settles O8: the fetch either fails or yields a word, and a word's execution commits or faults at an unmapped
address; a commit records no fault. -/
theorem cycleEndsInCommitOrModelFault : Obligations.CycleEndsInCommitOrModelFault := by
  intro s hs
  rcases step_cases s with ⟨f, hf, -⟩ | ⟨-, hlen, e⟩ | ⟨w, -, -, hstep⟩
  · rw [hs] at hf; cases hf
  · exact .inr (.inl ⟨hlen, e⟩)
  · rw [hstep]
    rcases exec_word_cases w s with ⟨-, e⟩ | ⟨-, -, hm, e⟩ | ⟨-, -, o, e, -⟩
    · exact .inl ⟨_, e, (commit_stopped ..).trans hs⟩
    · obtain ⟨hu, hp⟩ := not_mRuns_iff.mp hm
      exact .inr (.inr ⟨hp, hu, e⟩)
    · exact .inl ⟨_, e, (commit_stopped ..).trans hs⟩

/-- Settles O33: the increment is a 15-bit addition, and 0x7FFF + 1 wraps to 0. -/
theorem pcWrapsAtTheTop : Obligations.PcWrapsAtTheTop := by
  intro w s hpc hreset hr hj
  obtain ⟨t, e, ht⟩ := exec_decode_pc_of_no_jump hreset hr hj
  exact ⟨t, e, by rw [ht, hpc]; decide⟩

/-- Settles O34: the jump's target is the truncated pre-commit A, and no dest bit enters it. -/
theorem jumpDropsBit15OfA : Obligations.JumpDropsBit15OfA := by
  intro w s h15 hreset hr hj
  obtain ⟨t, e, heff⟩ := exec_decode_compute_completes h15 hr
  refine ⟨t, e, ?_⟩
  rw [heff.pcJump hreset hj, trunc15, BitVec.toNat_setWidth]

/-- Settles O35: the effect of a completed C-instruction names the state before the cycle alone: its store address, its
jump target and both ALU operands are of that state. -/
theorem commitIsSimultaneous : Obligations.CommitIsSimultaneous := by
  intro w s t h15 h
  obtain ⟨-, heff⟩ := exec_decode_effect h15 h
  refine ⟨fun _ h3 => heff.stores h3, fun _ hreset hj => heff.pcJump hreset hj, fun h12 h4 => ?_⟩
  have hd : t.d = resultOf w s := heff.regD.trans (if_pos h4)
  rw [hd, resultOf, if_pos h12]

end Sys2Proof.Machine

/-! The statement of 42_a_instruction.md: what the A-instruction's cycle loads, leaves and does to PC (R170). -/

namespace Sys2Proof.Machine

/-! ### The zero-extended literal (R7, R86) -/

theorem zext16_toNat (v : Addr) : (zext16 v).toNat = v.toNat := BitVec.toNat_setWidth_of_le (by decide)

theorem zext16_bit15 (v : Addr) : (zext16 v).getLsbD 15 = false := by
  rw [zext16, BitVec.getLsbD_setWidth, BitVec.getLsbD_of_ge v 15 le_rfl, Bool.and_false]

/-! ### The word and the cycle of an A-instruction (R80, R88) -/

theorem decode_address {w : Word} (h15 : w.getLsbD 15 = false) : decode w = .atValue (w.setWidth 15) := by
  rw [decode, h15]; rfl

theorem addressCycle_a (v : Addr) (s : State) : (commit s (addressCycle s v)).a = zext16 v := rfl

/-- Beside reset, the A-instruction's cycle increments: its jump line is low (R151, R157). -/
theorem addressCycle_pc (v : Addr) (s : State) :
    (commit s (addressCycle s v)).pc = if s.input.reset then 0#15 else s.pc + 1#15 := rfl

/-! ### The statement -/

/-- Settles O14: the cycle is a commit without a fault check, in which A alone is loaded and neither writeM nor the jump
line is set. -/
theorem aInstructionLoadsZeroExtendedLiteral : Obligations.AInstructionLoadsZeroExtendedLiteral := by
  refine ⟨fun w h15 => decode_address h15, fun v s => ?_⟩
  refine ⟨_, exec_atValue v s, ?_, ?_, rfl, commit_storesNothing s rfl, fun hreset => ?_, fun hreset => ?_,
    commit_frame ..⟩
  · rw [addressCycle_a, zext16_toNat]
  · rw [addressCycle_a, zext16_bit15]
  · rw [addressCycle_pc, if_pos hreset]; rfl
  · rw [addressCycle_pc, hreset, if_neg Bool.false_ne_true, BitVec.toNat_add]; rfl

end Sys2Proof.Machine

/-! The statements of 43_c_instruction.md: the destinations that bits 5 to 3 name (R183 to R190), and the signed
condition that bits 2 to 0 select (R191 to R198). -/

namespace Sys2Proof.Machine

/-! ### The dest field (R82, R183 to R190) -/

theorem dest_bits_of_field {w : Word} {ddd : BitVec 3} (h : w.extractLsb' 3 3 = ddd) :
    ddd.getLsbD 2 = w.getLsbD 5 ∧ ddd.getLsbD 1 = w.getLsbD 4 ∧ ddd.getLsbD 0 = w.getLsbD 3 := by
  subst h
  simp

/-- The rule of a dest value, for all eight: bit 2 of the field stores to A, bit 1 to D, bit 0 to M. -/
theorem destRule_field (ddd : BitVec 3) : DestRule ddd (ddd.getLsbD 2) (ddd.getLsbD 1) (ddd.getLsbD 0) := by
  intro w s h15 hddd
  obtain ⟨hA, hD, hM⟩ := dest_bits_of_field hddd
  rw [hA, hD, hM]
  constructor
  · intro hr
    obtain ⟨t, e, heff⟩ := exec_decode_compute_completes h15 hr
    exact ⟨t, e, heff.regA, heff.regD, heff.stores, heff.noStore, heff.frame⟩
  · intro hu hm
    exact (exec_decode_fault_iff w s _).mpr ⟨h15, hu, hm, rfl⟩

/-! ### The jump field (R82, R191 to R198) -/

theorem jumpOf_of_field {w : Word} {jjj : BitVec 3} (h : w.extractLsb' 0 3 = jjj) :
    jumpOf w = ⟨jjj.getLsbD 2, jjj.getLsbD 1, jjj.getLsbD 0⟩ := by
  subst h
  simp [jumpOf]

/-- The jump condition of a jump value on the signed result `v`: bit 2 of the field allows `v < 0`, bit 1 `v = 0`, bit 0
`v > 0`. -/
def SignedCondition (jjj : BitVec 3) (v : Int) : Prop :=
  (jjj.getLsbD 2 = true ∧ v < 0) ∨ (jjj.getLsbD 1 = true ∧ v = 0) ∨ (jjj.getLsbD 0 = true ∧ 0 < v)

theorem jumpHolds_iff_signedCondition {w : Word} {jjj : BitVec 3} (h : w.extractLsb' 0 3 = jjj) (out : Word) :
    JumpHolds (jumpOf w) out ↔ SignedCondition jjj out.toInt := by
  rw [jumpOf_of_field h, JumpHolds, SignedCondition, ← BitVec.toInt_inj, BitVec.toInt_zero]

theorem ComputeEffect.pc_of_no_jump {d : Dest} {j : Jump} {out : Word} {s t : State} (h : ComputeEffect d j out s t)
    (hreset : s.input.reset = false) (hj : ¬ JumpHolds j out) : t.pc = s.pc + 1 :=
  BitVec.eq_of_toNat_eq (by rw [h.pcNext hreset hj, BitVec.toNat_add]; rfl)

/-- The rule of a jump value holds of every way to write its signed condition. -/
theorem jumpRule_of_signedCondition {jjj : BitVec 3} {condition : Int → Prop}
    (h : ∀ v, SignedCondition jjj v ↔ condition v) : JumpRule jjj condition := by
  intro w s h15 hjjj hr
  obtain ⟨t, e, heff⟩ := exec_decode_compute_completes h15 hr
  have hj : JumpHolds (jumpOf w) (resultOf w s) ↔ condition (resultOf w s).toInt :=
    (jumpHolds_iff_signedCondition hjjj _).trans (h _)
  exact ⟨t, e, heff.pcReset, fun hreset hc => heff.pcJump hreset (hj.mpr hc),
    fun hreset hc => heff.pc_of_no_jump hreset (mt hj.mp hc)⟩

/-! ### The statements -/

/-- Settles O23: the eight values are the instances of one rule on the three dest bits. -/
theorem destFieldNamesTheDestinations : Obligations.DestFieldNamesTheDestinations :=
  ⟨destRule_field _, destRule_field _, destRule_field _, destRule_field _,
    destRule_field _, destRule_field _, destRule_field _, destRule_field _⟩

/-- Settles O24: a jump value allows none, one, two or all of the three signs, and a signed result has exactly one. -/
theorem jumpFieldDecidesThePc : Obligations.JumpFieldDecidesThePc := by
  refine ⟨jumpRule_of_signedCondition fun v => ?never, jumpRule_of_signedCondition fun v => ?gt,
    jumpRule_of_signedCondition fun v => ?eq, jumpRule_of_signedCondition fun v => ?ge,
    jumpRule_of_signedCondition fun v => ?lt, jumpRule_of_signedCondition fun v => ?ne,
    jumpRule_of_signedCondition fun v => ?le, jumpRule_of_signedCondition fun v => ?always⟩
  case never | gt | eq | lt | ne => simp [SignedCondition]
  case ge | le | always => simp [SignedCondition]; omega

end Sys2Proof.Machine

/-! The statements of 60_exceptions.md: the order of a cycle's events (R224), and what the host's loadProgram, peek and
poke change and refuse (R222, R235, R236). -/

namespace Sys2Proof.Machine

/-! ### The two outcomes of a decoded word (R224) -/

/-- A word that does not use M at an address where M does not run commits. -/
theorem exec_decode_commits {w : Word} {s : State} (h : ¬ (w.getLsbD 15 = true ∧ UsesM w ∧ ¬ MRuns s)) :
    ∃ o, exec (decode w) s = .next (commit s o) := by
  rcases exec_word_cases w s with ⟨-, e⟩ | ⟨h15, hu, hm, -⟩ | ⟨-, -, o, e, -⟩
  · exact ⟨_, e⟩
  · exact absurd ⟨h15, hu, hm⟩ h
  · exact ⟨o, e⟩

theorem commit_pc_of_reset {s : State} (o : CpuOut) (h : s.input.reset = true) : (commit s o).pc = 0 := by
  rw [commit_pc, h, programCounterNext_reset]; rfl

/-! ### The controller's write by range (R55, R56) -/

theorem memWrite_of_ram (s : State) {addr : Addr} (v : Word) (h : addr.toNat < 0x4000) :
    memWrite s true addr v = { s with ram := s.ram.write addr.toNat v } := by
  simp only [memWrite, region_by_range, if_pos h, if_true]

theorem memWrite_of_screen (s : State) {addr : Addr} (v : Word) (h : 0x4000 ≤ addr.toNat) (h' : addr.toNat < 0x6000) :
    memWrite s true addr v = { s with screen := s.screen.write (addr.toNat - 0x4000) v } := by
  simp only [memWrite, region_by_range, if_neg h.not_gt, if_pos h', if_true]

/-! ### The host's addresses (R236) -/

/-- A host address of RAM or Screen is its own 15-bit data address. -/
theorem hostAddress_toNat {addr : Nat} (h : addr < 0x6000) : (BitVec.ofNat 15 addr).toNat = addr :=
  (BitVec.toNat_ofNat ..).trans (Nat.mod_eq_of_lt (by omega))

theorem peek_cases (addr : Nat) (s : State) :
    (addr < 0x6000 ∧ peek addr s = (.word (memRead s (BitVec.ofNat 15 addr)), s)) ∨
    (0x6000 ≤ addr ∧ peek addr s = (.refused (.outOfRange addr), s)) := by
  unfold peek hostAddressWellFormed
  by_cases h : addr < 0x6000
  · exact .inl ⟨h, if_pos (decide_eq_true h)⟩
  · exact .inr ⟨by omega, if_neg (by simpa using h)⟩

theorem peek_of_ram {addr : Nat} (s : State) (h : addr < 0x4000) : peek addr s = (.word (s.ram.read addr), s) := by
  have ha : (BitVec.ofNat 15 addr).toNat = addr := hostAddress_toNat (by omega)
  rcases peek_cases addr s with ⟨-, e⟩ | ⟨hout, -⟩
  · rw [e, memRead_ram s (by rwa [ha]), ha]
  · omega

theorem peek_of_screen {addr : Nat} (s : State) (h : 0x4000 ≤ addr) (h' : addr < 0x6000) :
    peek addr s = (.word (s.screen.read (addr - 0x4000)), s) := by
  have ha : (BitVec.ofNat 15 addr).toNat = addr := hostAddress_toNat h'
  rcases peek_cases addr s with ⟨-, e⟩ | ⟨hout, -⟩
  · rw [e, memRead_screen s (by rwa [ha]) (by rwa [ha]), ha]
  · omega

theorem poke_of_ram {addr : Nat} (v : Word) (s : State) (h : addr < 0x4000) :
    poke addr v s = (.done, { s with ram := s.ram.write addr v }) := by
  have ha : (BitVec.ofNat 15 addr).toNat = addr := hostAddress_toNat (by omega)
  rcases poke_cases addr v s with ⟨-, e⟩ | ⟨hout, -⟩
  · rw [e, memWrite_of_ram s v (by rwa [ha]), ha]
  · omega

theorem poke_of_screen {addr : Nat} (v : Word) (s : State) (h : 0x4000 ≤ addr) (h' : addr < 0x6000) :
    poke addr v s = (.done, { s with screen := s.screen.write (addr - 0x4000) v }) := by
  have ha : (BitVec.ofNat 15 addr).toNat = addr := hostAddress_toNat h'
  rcases poke_cases addr v s with ⟨-, e⟩ | ⟨hout, -⟩
  · rw [e, memWrite_of_screen s v (by rwa [ha]) (by rwa [ha]), ha]
  · omega

theorem peek_refused {addr : Nat} (s : State) (h : 0x6000 ≤ addr) : peek addr s = (.refused (.outOfRange addr), s) := by
  rcases peek_cases addr s with ⟨hin, -⟩ | ⟨-, e⟩
  · omega
  · exact e

theorem poke_refused {addr : Nat} (v : Word) (s : State) (h : 0x6000 ≤ addr) :
    poke addr v s = (.refused (.outOfRange addr), s) := by
  rcases poke_cases addr v s with ⟨hin, -⟩ | ⟨-, e⟩
  · omega
  · exact e

/-! ### The statements -/

/-- Settles O7: the fetch decides first; inside the image the step is the word's execution, which faults exactly where M
is used and does not run, and whose commit reads reset before the jump. -/
theorem faultOrderAndResetPriority : Obligations.FaultOrderAndResetPriority := by
  refine fun s hs => ⟨step_outside_image hs, fun w hw => ?_⟩
  rw [step_of_fetch hs hw]
  constructor
  · rintro ⟨h15, hu, hm⟩
    exact (exec_decode_fault_iff w s _).mpr ⟨h15, hu, hm, rfl⟩
  · intro hrun
    obtain ⟨o, e⟩ := exec_decode_commits hrun
    exact ⟨_, e, commit_pc_of_reset o⟩

/-- Settles O42: below 0x6000 a host address names one word of RAM or of Screen, and no other address is reached. -/
theorem peekAndPokeReachOnlyRamAndScreen : Obligations.PeekAndPokeReachOnlyRamAndScreen := by
  intro addr v s
  refine ⟨fun hram => ?_, fun hlo hhi => ?_, fun hout => ?_⟩
  · exact ⟨peek_of_ram s hram, _, poke_of_ram v s hram, rfl, fun k => Memory.read_write s.ram addr k v⟩
  · exact ⟨peek_of_screen s hlo hhi, _, poke_of_screen v s hlo hhi, rfl,
      fun k => Memory.read_write s.screen (addr - 0x4000) k v⟩
  · exact ⟨⟨_, peek_refused s hout⟩, _, poke_refused v s hout⟩

/-- Settles O41: the length of the image alone decides between the two outcomes. -/
theorem loadProgramReplacesOnlyTheImage : Obligations.LoadProgramReplacesOnlyTheImage := by
  intro words s
  rcases loadProgram_cases words s with ⟨hfit, e⟩ | ⟨hlong, e⟩
  · exact ⟨fun _ => e, fun hlong => by omega⟩
  · exact ⟨fun hfit => by omega, fun _ => ⟨_, e⟩⟩

end Sys2Proof.Machine

/-! The statements of 70_reset_and_hazards.md: machine initialization (R250), the reset line in a cycle (R252) and the
host's reset (R253). -/

namespace Sys2Proof.Machine

/-! ### The CPU's outputs in the cycle of a word (R153 steps 2 to 7) -/

/-- What the CPU computes in the cycle that executes `w` in `s`: the datapath's CPU on the word's signals and `inM`. -/
def cpuOut (w : Word) (s : State) : CpuOut := cpu (controlSignals w) w (memRead s (addressM s)) s

theorem cpuOut_of_address {w : Word} (s : State) (h15 : w.getLsbD 15 = false) :
    cpuOut w s = addressCycle s (w.setWidth 15) := by
  rw [cpuOut, controlSignals, h15]; rfl

theorem cpuOut_of_compute {w : Word} (s : State) (h15 : w.getLsbD 15 = true) :
    cpuOut w s =
      computeCycle (alu s.d (operandY s (w.getLsbD 12)) (aluControlOf w)) (destOf w) (jumpOf w) := by
  rw [cpuOut, controlSignals, h15]; rfl

theorem exec_decode_next_eq_commit {w : Word} {s t : State} (h : exec (decode w) s = .next t) :
    t = commit s (cpuOut w s) := by
  rcases exec_word_cases w s with ⟨h15, e⟩ | ⟨-, -, -, e⟩ | ⟨h15, -, o, e, ho, -⟩ <;> rw [e] at h <;> cases h
  · rw [cpuOut_of_address s h15]
  · rw [cpuOut_of_compute s h15, ho]

/-! ### Where the lines of a cycle enter it -/

/-- The CPU reads no reset line; the key reaches it through `inM` alone. -/
theorem cpuOut_resetLine (w : Word) (s : State) (k : Word) (r r' : Bool) :
    cpuOut w { s with input := ⟨k, r⟩ } = cpuOut w { s with input := ⟨k, r'⟩ } := rfl

theorem memWrite_of_input (s : State) (i : CycleInput) (load : Bool) (addr : Addr) (v : Word) :
    memWrite { s with input := i } load addr v = { memWrite s load addr v with input := i } := by
  unfold memWrite
  cases load
  · rfl
  · cases region addr <;> rfl

/-- Of a commit the lines reach the next PC, by reset, and the next lines where nothing is upcoming; no storage. -/
theorem commit_of_input (s : State) (i : CycleInput) (o : CpuOut) :
    commit { s with input := i } o =
      { commit s o with
        pc := programCounterNext i.reset o.jump true (trunc15 s.a) s.pc
        input := s.upcoming.headD i } := by
  unfold commit
  rw [memWrite_of_input]; rfl

/-- The fault of an executed word is one of the policy and the pre-commit A, under any lines (R58). -/
theorem exec_decode_fault_of_input (w : Word) (s : State) (i i' : CycleInput) (f : Fault) :
    exec (decode w) { s with input := i } = .fault f ↔ exec (decode w) { s with input := i' } = .fault f :=
  (exec_decode_fault_iff w { s with input := i } f).trans (exec_decode_fault_iff w { s with input := i' } f).symm

/-! ### The statements -/

/-- Settles O30: the CPU computes the same under either reset line, and in its commit the line enters PC alone. -/
theorem resetInputOverridesOnlyThePc : Obligations.ResetInputOverridesOnlyThePc := by
  refine fun w s k => ⟨exec_decode_fault_of_input w s _ _, fun t u ht hu => ?_⟩
  have ht' := exec_decode_next_eq_commit ht
  have hu' := exec_decode_next_eq_commit hu
  have hpc : t.pc = 0 := by rw [ht']; exact commit_pc_of_reset _ rfl
  rw [cpuOut_resetLine w s k true false, commit_of_input] at ht'
  rw [commit_of_input] at hu'
  subst ht' hu'
  exact ⟨hpc, rfl, rfl, rfl, rfl, rfl⟩

/-- Settles O1: an empty storage lists no word, and a fitting image replaces that of a new machine. -/
theorem powerOnStateIsZero : Obligations.PowerOnStateIsZero := by
  refine fun p => ⟨rfl, rfl, rfl, fun _ => rfl, fun _ => rfl, fun words hlen => ?_, rfl⟩
  rw [loadProgram_state hlen]

/-- Settles O40: the operation is this one update of PC. -/
theorem hostResetSetsOnlyThePc : Obligations.HostResetSetsOnlyThePc := fun _ => ⟨rfl, rfl⟩

end Sys2Proof.Machine

/-! The statements of 30_encoding.md on decoding and encoding: each format's word is built from the fields the decoder
reads, so the two maps invert each other (R80 to R82, R90). -/

namespace Sys2Proof.Machine

/-! ### The word built from the fields of a word (R81, R82) -/

/-- The instruction a comp selection names is encoded with that selection in bits 12 to 6, for all 128 of them. -/
theorem encode_computeInstr (x : BitVec 2) (ac : BitVec 7) (d : Dest) (j : Jump) :
    encode (computeInstr x (ac.getLsbD 6) (selectionControl ac) d j) = computeWord x ac d j := by
  fin_cases ac <;> rfl

theorem computeWord_of_fields {w : Word} (h15 : w.getLsbD 15 = true) :
    computeWord (w.extractLsb' 13 2) (w.extractLsb' 6 7) (destOf w) (jumpOf w) = w := by
  apply BitVec.eq_of_getLsbD_eq
  intro i hi
  rw [computeWord_getLsbD, Dest.bits_getLsbD, Jump.bits_getLsbD, destOf, jumpOf]
  interval_cases i <;> simp [h15]

theorem encode_atValue_of_literal {w : Word} (h15 : w.getLsbD 15 = false) :
    encode (.atValue (w.setWidth 15)) = w := by
  apply BitVec.eq_of_getLsbD_eq
  intro i hi
  change (0#1 ++ w.setWidth 15 : BitVec (1 + 15)).getLsbD i = w.getLsbD i
  rw [BitVec.getLsbD_append, BitVec.getLsbD_setWidth]
  by_cases h : i < 15
  · simp [h]
  · rw [show i = 15 by omega, h15]; rfl

/-! ### The statements -/

/-- Settles O45: the decoder reads the literal, or each of the five fields, back from where the encoder put it. -/
theorem decodeInvertsEncode : Obligations.DecodeInvertsEncode := by
  rintro i -
  cases i
  case atValue v => rw [decode_address (atValueWord_bit15 v), atValueWord_literal]
  all_goals exact decode_computeWord ..

/-- Settles O46: bit 15 tells the format, and the fields of either format are all the bits of the word. -/
theorem encodeInvertsDecode : Obligations.EncodeInvertsDecode := by
  intro w
  cases h15 : w.getLsbD 15
  · rw [decode_address h15, encode_atValue_of_literal h15]
  · obtain ⟨ha, hc⟩ := selection_of_bits (w := w) rfl
    rw [decode, if_pos h15, ha, hc, encode_computeInstr, computeWord_of_fields h15]

/-- Settles O3: the decoder computes on each of these words. -/
theorem specWordsDecode : Obligations.SpecWordsDecode :=
  ⟨rfl, rfl, rfl, rfl, rfl, rfl, rfl, rfl, rfl, rfl, rfl⟩

end Sys2Proof.Machine

/-! The statements of 40_alu.md on the table of the 64 control patterns (R119), its use by the 100 selections without a
mnemonic (R148), wrap-around (R118) and the signs (R115, R116). -/

namespace Sys2Proof.Machine

/-! ### A control pattern in stages (R110 to R114) -/

theorem aluOut_pattern (p : BitVec 6) (x y : Word) :
    aluOut x y (aluControl p) =
      aluFinish (p.getLsbD 0) (aluCombine (p.getLsbD 1) (preparedOperand (p.getLsbD 5) (p.getLsbD 4) x)
        (preparedOperand (p.getLsbD 3) (p.getLsbD 2) y)) := by
  simp only [aluOut, aluPrepare_eq_preparedOperand, aluControl]

/-- The constants of the table as the numbers they are for addition. -/
theorem word_constants : 0#16 = 0 ∧ 1#16 = 1 ∧ 2#16 = 2 ∧ 0xFFFE#16 = -2 ∧ 0xFFFF#16 = -1 :=
  ⟨rfl, rfl, rfl, rfl, rfl⟩

/-- A selection's rule holds of every value function that agrees with the ALU on the selection's pattern. -/
theorem compRule_of_aluOut (ac : BitVec 7) {usesM : Bool} {value : State → Word} (ha : ac.getLsbD 6 = usesM)
    (hv : ∀ s, aluOut s.d (if usesM then wordAtM s else s.a) (aluControl (ac.setWidth 6)) = value s) :
    CompRule (fun x d j => computeInstr x (ac.getLsbD 6) (selectionControl ac) d j) ac usesM value := by
  subst ha
  have hvalue : selectionOut ac = value := funext fun s => (aluOut_selectionControl ac s).symm.trans (hv s)
  exact hvalue ▸ compRule_selection ac

/-! ### The sign of a result (R116) -/

theorem ng_iff_toNat (out : Word) : ng out = true ↔ 0x8000 ≤ out.toNat := by
  rw [ng_iff, BitVec.toInt_neg_iff]
  omega

/-! ### The statements -/

/-- Settles O10: in stages each row is an equation of words. The AND rows are laws of AND with all zeros or all ones and
De Morgan's; the addition rows are linear identities, with the complement as `-v - 1` and all ones as `-1`. -/
theorem aluClosedForms : Obligations.AluClosedForms := by
  intro x y
  -- the 64 equations in stages
  simp only [aluOut_pattern, BitVec.reduceGetLsb, preparedOperand, aluCombine, aluFinish, if_true, if_false,
    Bool.false_eq_true]
  -- the AND rows hold, and every conjunct left is one of additions and complements
  simp only [BitVec.and_zero, BitVec.zero_and, and_ones, ones_and, BitVec.not_and, BitVec.not_or, BitVec.not_not,
    true_and]
  simp only [not_eq_neg_sub_one, word_constants]
  and_intros
  all_goals ring

/-- Settles O13: by the table the first four are sums of constants, the fifth is the complement as `-v - 1`. -/
theorem arithmeticWraps : Obligations.ArithmeticWraps := by
  have table := aluClosedForms
  unfold Obligations.AluClosedForms at table
  intro x y v
  simp only [table]
  exact ⟨rfl, rfl, rfl, rfl, not_eq_neg_sub_one v, BitVec.toNat_add x y⟩

/-- Settles O12: ng is the sign of the output, and zr holds of 0 alone, whose sign bit is clear. -/
theorem flagsPartitionTheSignedResults : Obligations.FlagsPartitionTheSignedResults := by
  intro x y c
  simp only [alu_out, alu_zr, alu_ng]
  refine ⟨ng_iff _, ng_iff_toNat _, ?_, (toInt_pos_iff _).symm⟩
  rintro ⟨hz, hn⟩
  rw [(zr_iff _).mp hz] at hn
  cases hn

/-- Settles O21: every selection has the rule of its pattern, and the table of O10 gives the pattern's function of D
and A. -/
theorem unnamedRegisterSelections : Obligations.UnnamedRegisterSelections := by
  have table := aluClosedForms
  unfold Obligations.AluClosedForms at table
  refine ⟨?_, ?_, ?_, ?_, ?_, ?_, ?_, ?_, ?_, ?_, ?_, ?_, ?_, ?_, ?_, ?_, ?_, ?_, ?_, ?_, ?_, ?_, ?_,
    ?_, ?_, ?_, ?_, ?_, ?_, ?_, ?_, ?_, ?_, ?_, ?_, ?_, ?_, ?_, ?_, ?_, ?_, ?_, ?_, ?_, ?_, ?_⟩
  all_goals
    refine compRule_of_aluOut _ rfl fun s => ?_
    simp only [BitVec.reduceSetWidth, Bool.false_eq_true, if_false, table]

/-- Settles O22: as O21, with the word M names as the second operand. -/
theorem unnamedMemorySelections : Obligations.UnnamedMemorySelections := by
  have table := aluClosedForms
  unfold Obligations.AluClosedForms at table
  refine ⟨?_, ?_, ?_, ?_, ?_, ?_, ?_, ?_, ?_, ?_, ?_, ?_, ?_, ?_, ?_, ?_, ?_, ?_, ?_, ?_, ?_, ?_, ?_, ?_, ?_, ?_, ?_,
    ?_, ?_, ?_, ?_, ?_, ?_, ?_, ?_, ?_, ?_, ?_, ?_, ?_, ?_, ?_, ?_, ?_, ?_, ?_, ?_, ?_, ?_, ?_, ?_, ?_, ?_, ?_⟩
  all_goals
    refine compRule_of_aluOut _ rfl fun s => ?_
    simp only [BitVec.reduceSetWidth, if_true, table]

end Sys2Proof.Machine

/-! The statements of 41_cpu_cycle.md and 10_state.md on one cycle: the step and the datapath's cycle (R153), the word a
step fetches, what an instruction can change, and where the environment's lines enter (R29, R34, R160). -/

namespace Sys2Proof.Machine

/-! ### The datapath's cycle (R153) -/

theorem controlSignals_usesM_iff (w : Word) :
    ((controlSignals w).isC && ((controlSignals w).a || (controlSignals w).dest.toM)) = true ↔
      w.getLsbD 15 = true ∧ UsesM w := by
  rw [controlSignals]
  cases w.getLsbD 15
  · simp
  · simp [UsesM, destOf]

theorem datapathCycle_eq (w : Word) (s : State) :
    datapathCycle w s =
      if w.getLsbD 15 = true ∧ UsesM w ∧ ¬ MRuns s then .fault (.unmappedAccess (trunc15 s.a))
      else .next (commit s (cpuOut w s)) := by
  refine if_congr ?_ rfl rfl
  rw [controlSignals_usesM_iff, not_mRuns_iff, and_assoc, addressM, and_assoc]

/-- Executing the decoded instruction is the datapath's cycle on the raw word: the same fault, or a commit of the same
CPU outputs. -/
theorem exec_decode_eq_datapathCycle (w : Word) (s : State) : exec (decode w) s = datapathCycle w s := by
  rw [datapathCycle_eq]
  split
  case isTrue hfault =>
    obtain ⟨h15, hu, hm⟩ := hfault
    exact (exec_decode_fault_iff w s _).mpr ⟨h15, hu, hm, rfl⟩
  case isFalse hrun =>
    obtain ⟨o, e⟩ := exec_decode_commits hrun
    rw [e, ← exec_decode_next_eq_commit e]

/-! ### The word placed at PC -/

theorem decodeTableWord_word {w : Nat} (hw : w < 2 ^ 16) :
    decodeTableWord 16 w = some (decode (BitVec.ofNat 16 w)) :=
  if_pos ⟨le_rfl, hw⟩

theorem step_withFetchWord (s : State) {w : Nat} (hw : w < 2 ^ 16) :
    step (s.withFetchWord 16 w) = exec (decode (BitVec.ofNat 16 w)) (s.withFetchWord 16 w) := by
  have hget : (s.withFetchWord 16 w).rom[(s.withFetchWord 16 w).pc.toNat]? = some (BitVec.ofNat 16 (w % 2 ^ 16)) :=
    placeWord_get ..
  rw [Nat.mod_eq_of_lt hw] at hget
  exact step_of_fetch rfl hget

/-! ### What an instruction can change (R183 to R190) -/

theorem exec_decode_changes_d {w : Word} {s t : State} (h : exec (decode w) s = .next t) (hd : t.d ≠ s.d) :
    w.getLsbD 15 = true ∧ w.getLsbD 4 = true := by
  cases h15 : w.getLsbD 15
  · rw [exec_decode_address s h15] at h
    cases h
    exact absurd rfl hd
  · obtain ⟨-, heff⟩ := exec_decode_effect h15 h
    exact ⟨rfl, by_contra fun h4 => hd (heff.regD.trans (if_neg h4))⟩

theorem exec_decode_changes_a {w : Word} {s t : State} (h : exec (decode w) s = .next t) (ha : t.a ≠ s.a) :
    w.getLsbD 15 = false ∨ w.getLsbD 5 = true := by
  cases h15 : w.getLsbD 15
  · exact .inl rfl
  · obtain ⟨-, heff⟩ := exec_decode_effect h15 h
    exact .inr (by_contra fun h5 => ha (heff.regA.trans (if_neg h5)))

/-- A storage that changed was stored to: by a C-instruction with dest M, at the pre-commit A. -/
theorem exec_decode_changes_storage {w : Word} {s t : State} (h : exec (decode w) s = .next t)
    (hchange : ¬ StoresNothing s t) : w.getLsbD 15 = true ∧ w.getLsbD 3 = true ∧ ∃ out, StoresAt out s t := by
  by_cases hnone : w.getLsbD 15 = false ∨ w.getLsbD 3 = false
  · exact absurd (exec_decode_storesNothing_of_no_dest hnone h) hchange
  · simp only [not_or, Bool.not_eq_false] at hnone
    exact ⟨hnone.1, hnone.2, _, exec_decode_storesAt hnone.1 hnone.2 h⟩

theorem StoresAt.ram_changed {out : Word} {s t : State} (h : StoresAt out s t) {k : Nat}
    (hk : t.ram.read k ≠ s.ram.read k) : k = (trunc15 s.a).toNat := by
  by_contra hne
  exact hk ((h.ram k).trans (if_neg fun hc => hne hc.2))

theorem StoresAt.screen_changed {out : Word} {s t : State} (h : StoresAt out s t) {k : Nat}
    (hk : t.screen.read k ≠ s.screen.read k) : 0x4000 + k = (trunc15 s.a).toNat := by
  by_contra hne
  exact hk ((h.screen k).trans (if_neg fun hc => hne (by omega)))

/-! ### Where the key enters a cycle (R34) -/

theorem memRead_of_input (s : State) (i : CycleInput) {addr : Addr} (ha : addr.toNat < 0x6000) :
    memRead { s with input := i } addr = memRead s addr :=
  memRead_of_storesNothing (s := s) (t := { s with input := i }) ⟨fun _ => rfl, fun _ => rfl⟩ ha

theorem operandY_of_input (s : State) (i : CycleInput) {a : Bool} (h : a = false ∨ (trunc15 s.a).toNat < 0x6000) :
    operandY { s with input := i } a = operandY s a := by
  cases a
  · rfl
  · exact memRead_of_input s i (h.resolve_left (by decide))

/-- A word that does not read M, or reads it in RAM or Screen, completes under every lines in the commit of the same CPU
outputs, apart from PC, which takes the reset line, and the next lines. -/
theorem exec_decode_next_of_input {w : Word} {s t : State} {i : CycleInput}
    (hkey : w.getLsbD 15 = false ∨ w.getLsbD 12 = false ∨ (trunc15 s.a).toNat < 0x6000)
    (h : exec (decode w) { s with input := i } = .next t) :
    t = { commit s (cpuOut w s) with
      pc := programCounterNext i.reset (cpuOut w s).jump true (trunc15 s.a) s.pc
      input := s.upcoming.headD i } := by
  rw [exec_decode_next_eq_commit h]
  cases h15 : w.getLsbD 15
  · rw [cpuOut_of_address _ h15, cpuOut_of_address _ h15, commit_of_input]; rfl
  · have hy : operandY { s with input := i } (w.getLsbD 12) = operandY s (w.getLsbD 12) :=
      operandY_of_input s i (hkey.resolve_left (by simp [h15]))
    rw [cpuOut_of_compute _ h15, cpuOut_of_compute _ h15, hy, commit_of_input]

/-! ### The statements -/

/-- Settles O47: a simulation in the three cases of a step, the third by the equality of the two cycles on a word. -/
theorem stepEqualsDatapathCycle : Obligations.StepEqualsDatapathCycle := by
  intro s
  unfold datapathStep
  rcases step_cases s with ⟨f, hf, e⟩ | ⟨hs, hlen, e⟩ | ⟨w, hs, hw, e⟩
  · rw [e, hf]
  · rw [e, hs]; exact (if_pos hlen).symm
  · obtain ⟨hlt, -⟩ := List.getElem?_eq_some_iff.mp hw
    rw [e, hs, exec_decode_eq_datapathCycle]
    simp only [hlt.not_ge, if_false, List.getD_eq_getElem?_getD, hw, Option.getD_some]

/-- Settles O4: the fetch yields the word at PC. -/
theorem stepExecutesFetchedInstruction : Obligations.StepExecutesFetchedInstruction := fun _ _ => step_of_fetch

/-- Settles O5: the harness puts the word at PC, takes back a recorded fault and touches no other field. -/
theorem placedWordRunsNext : Obligations.PlacedWordRunsNext := fun s _ hw =>
  ⟨⟨_, decodeTableWord_word hw, step_withFetchWord s hw⟩, rfl, rfl, rfl, rfl, rfl, rfl,
    fun _ hk hne => placeWord_keeps s.rom _ hk hne⟩

/-- Settles O36: the registers follow the dest bits of the effect, a changed storage was stored to at one address. -/
theorem onlyNamedDestinationsChange : Obligations.OnlyNamedDestinationsChange := by
  intro w s t h
  obtain ⟨hrom, hpolicy, hstopped⟩ := exec_decode_frame h
  refine ⟨exec_decode_changes_d h, exec_decode_changes_a h, fun k hk => ?_, fun k hk => ?_, hrom, hpolicy, hstopped⟩
  · obtain ⟨h15, h3, out, hst⟩ := exec_decode_changes_storage h fun hn => hk (hn.ram k)
    exact ⟨h15, h3, hst.ram_changed hk⟩
  · obtain ⟨h15, h3, out, hst⟩ := exec_decode_changes_storage h fun hn => hk (hn.screen k)
    exact ⟨h15, h3, hst.screen_changed hk⟩

/-- Settles O39: that cycle loads neither D nor memory, the two places outM could go. -/
theorem aInstructionAluOutputIsUnobservable : Obligations.AInstructionAluOutputIsUnobservable :=
  fun s v _ => exec_atValue v s

/-- Settles O38: the fault looks at no line, and the two commits differ in the next lines alone. -/
theorem keyIsReadOnlyThroughM : Obligations.KeyIsReadOnlyThroughM := by
  refine fun w s k k' r hkey => ⟨exec_decode_fault_of_input w s _ _, fun t u ht hu => ?_⟩
  rw [exec_decode_next_of_input hkey ht, exec_decode_next_of_input hkey hu]
  exact ⟨rfl, rfl, rfl, rfl, rfl⟩

/-- Settles O32: the commit takes the next lines from upcoming, whatever the instruction. -/
theorem environmentLinesMoveOn : Obligations.EnvironmentLinesMoveOn := by
  intro w s t h
  obtain ⟨o, rfl⟩ := exec_decode_next h
  refine ⟨commit_upcoming s o, fun i rest hu => ?_, fun hu => ?_⟩
  · rw [commit_input, nextInput, hu]; rfl
  · rw [commit_input, nextInput, hu]; rfl

/-- Settles O31: both resets leave PC = 0, the image as it was and no fault recorded, so the fetch yields its first
word. -/
theorem resetVectorIsRomAddressZero : Obligations.ResetVectorIsRomAddressZero := by
  refine fun w w₀ s hs hw₀ => ⟨fun t hreset h => ?_, step_of_fetch hs hw₀⟩
  obtain ⟨o, rfl⟩ := exec_decode_next h
  apply step_of_fetch ((commit_stopped s o).trans hs)
  rw [commit_pc_of_reset o hreset, commit_rom]
  exact hw₀

end Sys2Proof.Machine

/-! The statements on steps and runs of them: the canonical form of the storages (R20, R51), and that a RAM or Screen
address reads the last word stored there (R53, R60, R65). -/

namespace Sys2Proof.Machine

/-! ### One step -/

theorem step_keeps_wf {s t : State} (h : s.wf = true) (hstep : step s = .next t) : t.wf = true := by
  obtain ⟨-, o, rfl⟩ := step_next hstep
  exact commit_keeps_wf s o h

theorem memRead_of_storesAt_other {out : Word} {s t : State} (h : StoresAt out s t) {addr : Addr}
    (ha : addr.toNat < 0x6000) (hne : addr ≠ trunc15 s.a) : memRead t addr = memRead s addr := by
  have hne' : addr.toNat ≠ (trunc15 s.a).toNat := fun e => hne (BitVec.eq_of_toNat_eq e)
  by_cases hr : addr.toNat < 0x4000
  · rw [memRead_ram t hr, memRead_ram s hr, h.ram, if_neg fun hc => hne' hc.2]
  · have hs : 0x4000 ≤ addr.toNat := by omega
    rw [memRead_screen t hs ha, memRead_screen s hs ha, h.screen, if_neg (by omega)]

theorem step_keeps_read {addr : Addr} (ha : addr.toNat < 0x6000) {s t : State} (hstep : step s = .next t)
    (hno : ¬ CycleStoresTo addr s) : memRead t addr = memRead s addr := by
  rcases step_cases s with ⟨f, -, e⟩ | ⟨-, -, e⟩ | ⟨w, -, hw, e⟩ <;> rw [e] at hstep
  · cases hstep
  · cases hstep
  · by_cases hn : StoresNothing s t
    · exact memRead_of_storesNothing hn ha
    · obtain ⟨h15, h3, out, hst⟩ := exec_decode_changes_storage hstep hn
      exact memRead_of_storesAt_other hst ha fun haddr => hno ⟨w, hw, h15, h3, haddr⟩

theorem step_stores_result {addr : Addr} (ha : addr.toNat < 0x6000) {s t : State} {w : Word}
    (hw : s.rom[s.pc.toNat]? = some w) (hstore : CycleStoresTo addr s) (hstep : step s = .next t) :
    memRead t addr = resultOf w s := by
  obtain ⟨w', hw', h15, h3, rfl⟩ := hstore
  obtain rfl : w = w' := Option.some.inj (hw.symm.trans hw')
  obtain ⟨hs, -⟩ := step_next hstep
  rw [step_of_fetch hs hw] at hstep
  exact memRead_of_storesAt (exec_decode_storesAt h15 h3 hstep) ha

/-! ### A run of steps -/

theorem run_keeps_read {addr : Addr} (ha : addr.toNat < 0x6000) (k : Nat) {s t : State}
    (hrun : Host.Core.run Sys2Proof.core k s = .next t)
    (hno : ∀ m u, m < k → Host.Core.run Sys2Proof.core m s = .next u → ¬ CycleStoresTo addr u) :
    memRead t addr = memRead s addr := by
  induction k generalizing s with
  | zero => cases hrun; rfl
  | succ k ih =>
    obtain ⟨s', hstep, hrest⟩ := (run_succ_next_iff Sys2Proof.core k s t).mp hrun
    have htail : memRead t addr = memRead s' addr := ih hrest fun m u hm hu =>
      hno (m + 1) u (by omega) ((run_succ_next_iff Sys2Proof.core m s u).mpr ⟨s', hstep, hu⟩)
    exact htail.trans (step_keeps_read ha hstep (hno 0 s (by omega) rfl))

/-! ### The statements -/

/-- Settles O48: a next state is a commit. -/
theorem stepKeepsCanonicalMemoryAndImage : Obligations.StepKeepsCanonicalMemoryAndImage := fun _ _ => step_keeps_wf

/-- Settles O50: by induction on the run for the cycles that do not store there, after the first cycle's store in the
second part. -/
theorem readReturnsTheLastWrite : Obligations.ReadReturnsTheLastWrite := by
  refine fun addr ha => ⟨fun k s t => run_keeps_read ha k, fun k s t w hrun hw hstore hno => ?_⟩
  obtain ⟨s', hstep, hrest⟩ := (run_succ_next_iff Sys2Proof.core k s t).mp hrun
  calc memRead t addr = memRead s' addr := run_keeps_read ha k hrest fun m u hm hu =>
        hno (m + 1) u (by omega) (by omega) ((run_succ_next_iff Sys2Proof.core m s u).mpr ⟨s', hstep, hu⟩)
    _ = resultOf w s := step_stores_result ha hw hstore hstep

end Sys2Proof.Machine

/-! The statements of 60_exceptions.md on the host's operations: what one of them can do to the state, once for all
seven, the recorded fault (R221, D17), and the keyboard and the renderer (R34, R35, R234). -/

namespace Sys2Proof.Machine

/-! ### What a host operation can do to the state (R234) -/

/-- The states a host operation can leave: a new image, one word stored, a change of PC and the environment's lines at
most, the next state of a cycle, or the record of a cycle's fault. -/
inductive HostChange (s : State) : State → Prop where
  | image {words : List Word} (hfit : words.length ≤ 0x8000) : HostChange s { s with rom := words }
  | store (addr : Addr) (v : Word) : HostChange s (memWrite s true addr v)
  | control (pc : Addr) (input : CycleInput) (upcoming : List CycleInput) :
      HostChange s { s with pc := pc, input := input, upcoming := upcoming }
  | cycle {i : CycleInput} {t : State} (hstep : step { s with input := i } = .next t) : HostChange s t
  | record {i : CycleInput} {f : Fault} (hstep : step { s with input := i } = .fault f) :
      HostChange s { s with stopped := some f }

theorem HostChange.unchanged (s : State) : HostChange s s := .control s.pc s.input s.upcoming

theorem hostOp_change (op : HostOp) (s : State) : HostChange s (hostOp op s).2 := by
  cases op with
  | loadProgram words =>
    rcases loadProgram_cases words s with ⟨hfit, e⟩ | ⟨-, e⟩ <;> rw [hostOp, e]
    · exact .image hfit
    · exact .unchanged s
  | step i =>
    rcases hostStep_cases i s with ⟨t, hstep, e⟩ | ⟨f, hstep, e⟩ | ⟨r, e⟩ <;> rw [hostOp, e]
    · exact .cycle hstep
    · exact .record hstep
    · exact .unchanged s
  | reset => exact .control 0#15 s.input s.upcoming
  | peek addr => rw [hostOp, peek_state]; exact .unchanged s
  | poke addr v =>
    rcases poke_cases addr v s with ⟨-, e⟩ | ⟨-, e⟩ <;> rw [hostOp, e]
    · exact .store _ v
    · exact .unchanged s
  | keyboard key => exact .control s.pc _ _
  | readScreen index => rw [hostOp, readScreen_state]; exact .unchanged s

/-! ### The invariant and the policy (R20, R58) -/

theorem HostChange.keeps_wf {s t : State} (hc : HostChange s t) (h : s.wf = true) : t.wf = true := by
  cases hc with
  | image hfit =>
    simp only [State.wf, Bool.and_eq_true] at h ⊢
    exact ⟨h.1, decide_eq_true hfit⟩
  | store addr v => exact memWrite_keeps_wf s true addr v h
  | control => exact h
  | @cycle i _ hstep => exact step_keeps_wf (s := { s with input := i }) h hstep
  | record => exact h

theorem HostChange.unmappedPolicy {s t : State} (hc : HostChange s t) : t.unmappedPolicy = s.unmappedPolicy := by
  cases hc with
  | image | control | record => rfl
  | store => exact memWrite_unmappedPolicy ..
  | cycle hstep =>
    obtain ⟨-, o, rfl⟩ := step_next hstep
    exact commit_unmappedPolicy ..

theorem hostRun_keeps_wf (ops : List HostOp) {s : State} (h : s.wf = true) : (hostRun ops s).wf = true :=
  hostRun_keeps (P := fun u => u.wf = true) (fun op u => (hostOp_change op u).keeps_wf) ops h

theorem hostRun_unmappedPolicy (ops : List HostOp) (s : State) :
    (hostRun ops s).unmappedPolicy = s.unmappedPolicy :=
  hostRun_keeps (P := fun u => u.unmappedPolicy = s.unmappedPolicy)
    (fun op u => (hostOp_change op u).unmappedPolicy.trans) ops rfl

/-! ### The recorded fault (R221) -/

theorem step_of_stopped {s : State} {f : Fault} (hs : s.stopped = some f) : step s = .fault f := by
  rcases step_cases s with ⟨f', hf, e⟩ | ⟨hn, -⟩ | ⟨w, hn, -⟩
  · rw [hs] at hf; cases hf; exact e
  · rw [hs] at hn; cases hn
  · rw [hs] at hn; cases hn

/-- A machine stopped at a fault, with these registers. -/
structure StoppedAt (f : Fault) (a d : Word) (u : State) : Prop where
  stopped : u.stopped = some f
  regA : u.a = a
  regD : u.d = d

theorem HostChange.keeps_stoppedAt {f : Fault} {a d : Word} {s t : State} (hc : HostChange s t)
    (h : StoppedAt f a d s) : StoppedAt f a d t := by
  have hfault (i : CycleInput) : step { s with input := i } = .fault f := step_of_stopped h.stopped
  obtain ⟨hs, ha, hd⟩ := h
  cases hc with
  | image | control => exact ⟨hs, ha, hd⟩
  | store => exact ⟨(memWrite_stopped ..).trans hs, (memWrite_a ..).trans ha, (memWrite_d ..).trans hd⟩
  | cycle hstep => rw [hfault] at hstep; cases hstep
  | record hstep => rw [hfault] at hstep; cases hstep; exact ⟨rfl, ha, hd⟩

/-! ### The two outcomes of a host's cycle (R234) -/

theorem hostStep_of_next {i : CycleInput} {s t : State} (h : step { s with input := i } = .next t) :
    hostStep i s = (.done, t) := by
  rw [hostStep, h]

theorem hostStep_of_fault {i : CycleInput} {s : State} {f : Fault} (h : step { s with input := i } = .fault f) :
    hostStep i s = (.faulted f, { s with stopped := some f }) := by
  rw [hostStep, h]

theorem exec_decode_next_or_fault (w : Word) (s : State) :
    (∃ t, exec (decode w) s = .next t) ∨ ∃ f, exec (decode w) s = .fault f := by
  rcases exec_word_cases w s with ⟨-, e⟩ | ⟨-, -, -, e⟩ | ⟨-, -, o, e, -⟩
  · exact .inl ⟨_, e⟩
  · exact .inr ⟨_, e⟩
  · exact .inl ⟨_, e⟩

/-! ### The keyboard and the renderer (R34, R35) -/

/-- The present lines and every input to come carry this key. -/
structure LinesCarryKey (k : Word) (s : State) : Prop where
  present : s.input.key = k
  upcoming : ∀ i ∈ s.upcoming, i.key = k

theorem LinesCarryKey.step_keeps {k : Word} {s t : State} (h : LinesCarryKey k s) (hstep : step s = .next t) :
    LinesCarryKey k t := by
  obtain ⟨-, o, rfl⟩ := step_next hstep
  exact ⟨nextInput_key h.present h.upcoming, fun i hi => h.upcoming i (List.mem_of_mem_tail hi)⟩

theorem linesCarryKey_setKey (k : Word) (s : State) : LinesCarryKey k (setKey k s) :=
  ⟨setKey_input_key s k, setKey_upcoming_key k s⟩

theorem setKey_upcoming_reset (k : Word) (s : State) :
    (setKey k s).upcoming.map CycleInput.reset = s.upcoming.map CycleInput.reset := by
  rw [setKey_upcoming, List.map_map]; rfl

theorem memRead_keyboard (s : State) : memRead s 0x6000#15 = s.input.key := by
  rw [memRead, region_by_range]; rfl

theorem readScreen_word {index : Nat} (s : State) (h : index < 8192) :
    (readScreen index s).1 = .word (s.screen.read index) := by
  rw [readScreen, if_pos (show screenIndexWellFormed index = true from decide_eq_true h)]

/-! ### The statements -/

/-- Settles O2: the storages and the image of a new machine list nothing. -/
theorem powerOnStateMeetsInvariant : Obligations.PowerOnStateMeetsInvariant := fun _ => ⟨rfl, rfl⟩

/-- Settles O49: each of the five changes an operation can make keeps both, and a run by induction on it. -/
theorem hostRunsKeepInvariant : Obligations.HostRunsKeepInvariant :=
  ⟨fun op s => ⟨(hostOp_change op s).keeps_wf, (hostOp_change op s).unmappedPolicy⟩,
    fun ops s => ⟨hostRun_keeps_wf ops, hostRun_unmappedPolicy ops s⟩,
    fun ops p => ⟨hostRun_keeps_wf ops (powerOnStateMeetsInvariant p).1, hostRun_unmappedPolicy ops _⟩⟩

/-- Settles O9: on a stopped machine a cycle raises the recorded fault again, and no other change reaches the record, A
or D. -/
theorem recordedFaultIsTerminalAndSticky : Obligations.RecordedFaultIsTerminalAndSticky := by
  refine ⟨fun _ _ _ => hostStep_of_fault, fun ops s f hs => ?_⟩
  have hrun : StoppedAt f s.a s.d (hostRun ops s) :=
    hostRun_keeps (fun op u => (hostOp_change op u).keeps_stoppedAt) ops ⟨hs, rfl, rfl⟩
  exact ⟨hrun.stopped, step_of_stopped hrun.stopped, hrun.regA, hrun.regD⟩

/-- Settles O44: the cycle with the sent inputs executes the word at PC, which commits or faults. -/
theorem hostStepRunsOneCycleWithItsInputs : Obligations.HostStepRunsOneCycleWithItsInputs := by
  intro i s w hs hw
  have hstep : step { s with input := i } = exec (decode w) { s with input := i } := step_of_fetch hs hw
  rcases exec_decode_next_or_fault w { s with input := i } with ⟨t, e⟩ | ⟨f, e⟩
  · exact ⟨t, hstep, .inl ⟨hostStep_of_next (hstep.trans e), e⟩⟩
  · exact ⟨_, hstep, .inr ⟨f, hostStep_of_fault (hstep.trans e), e, rfl⟩⟩

/-- Settles O51: every cycle keeps the key on the lines, and the keyboard word reads the lines. -/
theorem keyboardOperationSetsTheKey : Obligations.KeyboardOperationSetsTheKey := by
  refine fun k s => ⟨setKey k s, rfl, rfl, rfl, setKey_upcoming_key k s, setKey_upcoming_reset k s,
    rfl, rfl, rfl, rfl, rfl, rfl, rfl, rfl, fun m u hrun => ?_⟩
  have hu : LinesCarryKey k u := run_keeps (fun _ _ h => h.step_keeps) m (linesCarryKey_setKey k s) hrun
  rw [memRead_keyboard, hu.present]

/-- Settles O43: the operation has no way to change the state, and answers below 8192. -/
theorem rendererReadHasNoEffect : Obligations.RendererReadHasNoEffect :=
  fun index s => ⟨readScreen_state index s, readScreen_word s⟩

end Sys2Proof.Machine
